-- ==== Sys2Proof/Word.lean ====
section
/-! DEFINITION. The word types of the test_440 SDP block (00_scope.md R9, 10_state.md R32). -/

namespace Sys2Proof

/-- A 32-bit value: register data, `TIME`, `ALARM`, `PERIOD`, the statistics counters (R6: `TW = CW = 32`). -/
abbrev Word := BitVec 32

/-- A byte: an element of `FRAME` or of the output trace. -/
abbrev Byte := BitVec 8

/-- An output code: a 12-bit unsigned integer (30_encoding.md R107). -/
abbrev Code := BitVec 12

/-- An Operation Word (30_encoding.md R100). -/
abbrev Opw := BitVec 12

/-- The field that holds a ring index or the block position. `LOG2N` is at most 16 (R6), so 16 bits hold every
index; an index has only its low `LOG2N` bits (see `Machine/Index.lean`). -/
abbrev Index := BitVec 16

end Sys2Proof
end

