-- ==== Sys2Proof/Config.lean ====
section
/-! DEFINITION. The implementation parameters (00_scope.md R6, 10_state.md R51) and the one named instance. -/

namespace Sys2Proof

/-- The compile-time parameters of an instance (R6). They are plain numbers, so that a set outside the legal values
can be written down and is then refused (R7, `Params.legal` in `WellFormed.lean`). `N` and `M` are derived from
`log2n`; `TW` and `CW` are fixed at 32. -/
structure Params where
  /-- `LOG2N`: log2 of the ring capacity. -/
  log2n : Nat
  /-- `BLOCK_SIZE`: processing block size in frames. -/
  blockSize : Nat
  /-- `LWM`: low watermark in codes. -/
  lwm : Nat
  /-- `PERIOD`: dispatch period in timebase ticks. -/
  period : Nat
  /-- `P_CMD`: byte 0 of every bus frame. -/
  pCmd : Nat
  deriving DecidableEq, Repr

/-- `N`, the ring capacity in slots (R6). -/
def Params.cap (p : Params) : Nat := 2 ^ p.log2n

/-- The default low watermark, `N/2` (R6, D26). -/
def Params.defaultLwm (p : Params) : Nat := p.cap / 2

/-- The instance whose power-on state is `Machine.State.reset`: the configuration of 95_test_vectors.md L1-7, which
is the source's example (R6) with that vector's `PERIOD` and `P_CMD`.
DESIGN CHOICE (log entry 1): the spec leaves every one of these parameters OPEN. -/
def Config.scenario : Params :=
  { log2n := 9, blockSize := 64, lwm := 256, period := 1, pCmd := 0x40 }

/-- The configuration C8 of 95_test_vectors.md, used by the tests. -/
def Config.c8 : Params :=
  { log2n := 3, blockSize := 2, lwm := 4, period := 3, pCmd := 0x40 }

end Sys2Proof
end

