-- ==== Sys2Proof/Syntax.lean ====
section
/-! DEFINITION. The operations of the block (30_encoding.md R104), the input that carries one (R100), the agents
(R102) and the assembler's operations (R114, R115). -/

namespace Sys2Proof

/-- The agents of the block's environment (00_scope.md R3). -/
inductive Agent where
  | host
  | timebase
  | busPeripheral
  | resetSource
  deriving DecidableEq, Repr

/-- One input to the block: an Operation Word with the 32-bit write data a host write carries (R100, R103). In
every other operation `wdata` is not part of the input and is not looked at (log entry 17). -/
structure InputOp where
  opw : Opw
  wdata : Word
  deriving DecidableEq, Repr

/-- The 21 operations of the opcode map, one constructor a row of spec/opcode_table.json (R104). Only host writes
have an operand, their `WDATA` (R103). -/
inductive Instr where
  /-- PUSH: push a 12-bit code (R140). -/
  | push (wdata : Word)
  /-- PUSHF: convert a binary32 sample and push its code (R145). -/
  | pushf (wdata : Word)
  /-- RD.AVAIL (R150). -/
  | rdAvail
  /-- RD.FREE (R151). -/
  | rdFree
  /-- RD.STATUS (R283). -/
  | rdStatus
  /-- RD.CTRL (R286). -/
  | rdCtrl
  /-- WR.CTRL (R287). -/
  | wrCtrl (wdata : Word)
  /-- RD.SAMPLES (R290). -/
  | rdSamples
  /-- RD.UPDATES (R291). -/
  | rdUpdates
  /-- RD.UNDERRUNS (R292). -/
  | rdUnderruns
  /-- RD.OVERRUNS (R293). -/
  | rdOverruns
  /-- RD.XFERERR (R294). -/
  | rdXferErr
  /-- RD.TIME (R193). -/
  | rdTime
  /-- RD.ALARM (R194). -/
  | rdAlarm
  /-- RD.PARAM0 (R296). -/
  | rdParam0
  /-- RD.PARAM1 (R297). -/
  | rdParam1
  /-- RD.PERIOD (R298). -/
  | rdPeriod
  /-- TICK: one timebase tick, with the dispatch on a firing (R182). -/
  | tick
  /-- TREQ: transfer request from the bus peripheral (R222). -/
  | treq
  /-- NACK: transfer failure from the bus peripheral (R225). -/
  | nack
  /-- RESET: reset the block (R360). -/
  | reset
  deriving DecidableEq, Repr

/-- A decimal literal of the assembler, `± digits · 10 ^ exp10` (R114). -/
structure Decimal where
  neg : Bool
  digits : Nat
  exp10 : Int
  deriving DecidableEq, Repr

/-- One operation of the assembler: a mnemonic of R104 with its operand (R114), or a pseudo-operation of R115. -/
inductive AsmOp where
  | op (i : Instr)
  | arm
  | armIe
  | bsync
  | bsyncIe
  | ticks (n : Nat)
  | send
  | pushblk (codes : List Word)
  | pushfblk (samples : List Word)
  deriving DecidableEq, Repr

/-- One line: an optional agent tag and an operation (R114). -/
structure AsmLine where
  tag : Option Agent
  body : AsmOp
  deriving DecidableEq, Repr

end Sys2Proof
end

