-- ==== Sys2Proof/WellFormed.lean ====
section
/-! DEFINITION. The well-formedness checks: legal parameter sets (00_scope.md R6, R7), inputs an agent may issue
(30_encoding.md R100, R112), assembler operations (R115). Every term of `Instr` is well formed: its only operand is a
32-bit `WDATA`, and every value of it is admitted (R106, R109 ignore the bits they do not name). -/

namespace Sys2Proof

/-- `LOG2N` is an integer 1..16 (R6). -/
def Params.log2nOk (p : Params) : Bool := decide (1 ≤ p.log2n ∧ p.log2n ≤ 16)

/-- `BLOCK_SIZE` is an integer 1..N-1 (R6). -/
def Params.blockSizeOk (p : Params) : Bool := decide (1 ≤ p.blockSize ∧ p.blockSize ≤ p.cap - 1)

/-- `LWM` is an integer 1..N-1 (R6). -/
def Params.lwmOk (p : Params) : Bool := decide (1 ≤ p.lwm ∧ p.lwm ≤ p.cap - 1)

/-- `PERIOD` is an integer 1..2^32-1 (R6). -/
def Params.periodOk (p : Params) : Bool := decide (1 ≤ p.period ∧ p.period ≤ 2 ^ 32 - 1)

/-- `P_CMD` is an integer 0..255 (R6). -/
def Params.pCmdOk (p : Params) : Bool := decide (p.pCmd ≤ 255)

/-- A legal parameter set (R6). Any other set describes no instance of the block (R7). -/
def Params.legal (p : Params) : Bool :=
  p.log2nOk && p.blockSizeOk && p.lwmOk && p.periodOk && p.pCmdOk

/-- No agent issues a reserved word: class `11`, or class `10` with `Z ≠ 0x00` (R112). -/
def InputOp.notReserved (o : InputOp) : Bool :=
  o.opw.extractLsb' 10 2 != 3#2 && (o.opw.extractLsb' 10 2 != 2#2 || o.opw.extractLsb' 0 8 == 0#8)

/-- Only host writes (class `01`) carry write data (R100); elsewhere the model's record holds 0 (log entry 17). -/
def InputOp.dataOnlyOnWrites (o : InputOp) : Bool :=
  o.opw.extractLsb' 10 2 == 1#2 || o.wdata == 0#32

/-- An input an agent of the environment can present (R100, R112). -/
def InputOp.wf (o : InputOp) : Bool := o.notReserved && o.dataOnlyOnWrites

/-- `ticks n` needs `n ≥ 1` (R115); every other assembler operation is well formed as written. -/
def AsmOp.wf : AsmOp → Bool
  | .ticks n => decide (1 ≤ n)
  | .op _ | .arm | .armIe | .bsync | .bsyncIe | .send | .pushblk _ | .pushfblk _ => true

/-- The agent that issues an operation (R102, the `agent` column of spec/opcode_table.json). -/
def Instr.agent : Instr → Agent
  | .tick => .timebase
  | .treq => .busPeripheral
  | .nack => .busPeripheral
  | .reset => .resetSource
  | .push _ | .pushf _ | .wrCtrl _ | .rdAvail | .rdFree | .rdStatus | .rdCtrl | .rdSamples | .rdUpdates
  | .rdUnderruns | .rdOverruns | .rdXferErr | .rdTime | .rdAlarm | .rdParam0 | .rdParam1 | .rdPeriod => .host

/-- The agent of an assembler operation: that of the operations it expands to (R102, R115). -/
def AsmOp.agent : AsmOp → Agent
  | .op i => i.agent
  | .ticks _ => .timebase
  | .send => .busPeripheral
  | .arm | .armIe | .bsync | .bsyncIe | .pushblk _ | .pushfblk _ => .host

/-- A line's tag, where it has one, names the agent that issues its operation (R102, R114). -/
def AsmLine.wf (l : AsmLine) : Bool :=
  l.body.wf && (match l.tag with
    | none => true
    | some a => decide (a = l.body.agent))

end Sys2Proof
end

