-- ==== Sys2Proof/Decode.lean ====
section
/-! DEFINITION. The register map (20_memory.md R71), the decoder (30_encoding.md R105), the encoder (R104), the agent
of a word (R102), and the reading of a word numbered as spec/opcode_table.json numbers it. -/

namespace Sys2Proof

/-- The sixteen registers of the host register map (R71). -/
inductive HostReg where
  | data | sample | avail | free | status | ctrl | samples | updates | underruns | overruns | xferErr
  | time | alarm | param0 | param1 | period
  deriving DecidableEq, Repr

/-- The registers in the order of R71. -/
def HostReg.all : List HostReg :=
  [.data, .sample, .avail, .free, .status, .ctrl, .samples, .updates, .underruns, .overruns, .xferErr,
   .time, .alarm, .param0, .param1, .period]

/-- The byte offset of a register (R71). -/
def HostReg.offset : HostReg → BitVec 8
  | .data => 0x00#8
  | .sample => 0x04#8
  | .avail => 0x08#8
  | .free => 0x0C#8
  | .status => 0x10#8
  | .ctrl => 0x14#8
  | .samples => 0x18#8
  | .updates => 0x1C#8
  | .underruns => 0x20#8
  | .overruns => 0x24#8
  | .xferErr => 0x28#8
  | .time => 0x2C#8
  | .alarm => 0x30#8
  | .param0 => 0x34#8
  | .param1 => 0x38#8
  | .period => 0x3C#8

/-- The register at a byte offset, if any: an unmapped or misaligned offset names none (R71, R72). -/
def HostReg.atOffset (off : BitVec 8) : Option HostReg :=
  HostReg.all.find? fun r => r.offset == off

/-- The read of a register; `DATA` and `SAMPLE` are write-only (R71). -/
def HostReg.readInstr : HostReg → Option Instr
  | .data => none
  | .sample => none
  | .avail => some .rdAvail
  | .free => some .rdFree
  | .status => some .rdStatus
  | .ctrl => some .rdCtrl
  | .samples => some .rdSamples
  | .updates => some .rdUpdates
  | .underruns => some .rdUnderruns
  | .overruns => some .rdOverruns
  | .xferErr => some .rdXferErr
  | .time => some .rdTime
  | .alarm => some .rdAlarm
  | .param0 => some .rdParam0
  | .param1 => some .rdParam1
  | .period => some .rdPeriod

/-- The write of a register; all but `DATA`, `SAMPLE` and `CTRL` are read-only (R71). -/
def HostReg.writeInstr (wdata : Word) : HostReg → Option Instr
  | .data => some (.push wdata)
  | .sample => some (.pushf wdata)
  | .ctrl => some (.wrCtrl wdata)
  | .avail | .free | .status | .samples | .updates | .underruns | .overruns | .xferErr
  | .time | .alarm | .param0 | .param1 | .period => none

/-- What an Operation Word stands for (R105): an operation, a host access outside the map (it executes as a bus
error, R111), or one of the two kinds of reserved word (refused, R112). -/
inductive Decoded where
  | instr (i : Instr)
  | hostAccessError
  | reservedClass
  | reservedEventBits
  deriving DecidableEq, Repr

/-- `CLASS`, bits 11:10 (R101). -/
def Opw.cls (w : Opw) : BitVec 2 := w.extractLsb' 10 2
/-- `SZ` of a host access, `EV` of an event, bits 9:8 (R101). -/
def Opw.szEv (w : Opw) : BitVec 2 := w.extractLsb' 8 2
/-- `OFF` of a host access, `Z` of an event, bits 7:0 (R101). -/
def Opw.offZ (w : Opw) : BitVec 8 := w.extractLsb' 0 8

/-- A host read: admitted only as a word access to a readable register (R72, R105). -/
def decodeRead (w : Opw) : Decoded :=
  if Opw.szEv w = 0b10#2 then
    match (HostReg.atOffset (Opw.offZ w)).bind HostReg.readInstr with
    | some i => .instr i
    | none => .hostAccessError
  else .hostAccessError

/-- A host write: admitted only as a word access to a writable register (R72, R105). -/
def decodeWrite (w : Opw) (wdata : Word) : Decoded :=
  if Opw.szEv w = 0b10#2 then
    match (HostReg.atOffset (Opw.offZ w)).bind (HostReg.writeInstr wdata) with
    | some i => .instr i
    | none => .hostAccessError
  else .hostAccessError

/-- An event: `Z` must be `0x00`, `EV` selects it (R101, R105). -/
def decodeEvent (w : Opw) : Decoded :=
  if Opw.offZ w ≠ 0x00#8 then .reservedEventBits
  else if Opw.szEv w = 0b00#2 then .instr .tick
  else if Opw.szEv w = 0b01#2 then .instr .treq
  else if Opw.szEv w = 0b10#2 then .instr .nack
  else .instr .reset

/-- The decoder, total on every input (R105). -/
def decode (o : InputOp) : Decoded :=
  if Opw.cls o.opw = 0b11#2 then .reservedClass
  else if Opw.cls o.opw = 0b10#2 then decodeEvent o.opw
  else if Opw.cls o.opw = 0b00#2 then decodeRead o.opw
  else decodeWrite o.opw o.wdata

/-- The Operation Word of an operation, as the opcode map writes it (R104). -/
def Instr.opw : Instr → Opw
  | .push _ => 0x600#12
  | .pushf _ => 0x604#12
  | .rdAvail => 0x208#12
  | .rdFree => 0x20C#12
  | .rdStatus => 0x210#12
  | .rdCtrl => 0x214#12
  | .wrCtrl _ => 0x614#12
  | .rdSamples => 0x218#12
  | .rdUpdates => 0x21C#12
  | .rdUnderruns => 0x220#12
  | .rdOverruns => 0x224#12
  | .rdXferErr => 0x228#12
  | .rdTime => 0x22C#12
  | .rdAlarm => 0x230#12
  | .rdParam0 => 0x234#12
  | .rdParam1 => 0x238#12
  | .rdPeriod => 0x23C#12
  | .tick => 0x800#12
  | .treq => 0x900#12
  | .nack => 0xA00#12
  | .reset => 0xB00#12

/-- The write data an operation carries: the operand of a host write, nothing (0) otherwise (R100, R103). -/
def Instr.wdata : Instr → Word
  | .push w => w
  | .pushf w => w
  | .wrCtrl w => w
  | .rdAvail | .rdFree | .rdStatus | .rdCtrl | .rdSamples | .rdUpdates | .rdUnderruns | .rdOverruns | .rdXferErr
  | .rdTime | .rdAlarm | .rdParam0 | .rdParam1 | .rdPeriod | .tick | .treq | .nack | .reset => 0#32

/-- The input that carries an operation (R100, R104). -/
def encode (i : Instr) : InputOp := { opw := i.opw, wdata := i.wdata }

/-- An input as far as the block looks at it: the write data only where the class is a host write (R100). -/
def InputOp.carried (o : InputOp) : InputOp :=
  if Opw.cls o.opw = 0b01#2 then o else { o with wdata := 0#32 }

/-- Which agent issues a word; none issues a reserved one (R102, R112). -/
def InputOp.agent (o : InputOp) : Option Agent :=
  if Opw.cls o.opw = 0b11#2 then none
  else if Opw.cls o.opw = 0b10#2 then
    if Opw.offZ o.opw ≠ 0x00#8 then none
    else if Opw.szEv o.opw = 0b00#2 then some .timebase
    else if Opw.szEv o.opw = 0b11#2 then some .resetSource
    else some .busPeripheral
  else some .host

/-- An input from the bits of one, numbered as spec/opcode_table.json numbers them: the Operation Word is bits 11:0
of a 16-bit container whose bits 15:12 are 0, and `WDATA` follows it in bits 47:16 (DESIGN CHOICE, log entry 6: the
table gives operations no words in a memory). Bits above `nbits` are 0. A container with a bit of 15:12 set holds no
Operation Word. -/
def InputOp.ofTableWord (nbits w : Nat) : Option InputOp :=
  let v := w % 2 ^ nbits
  if v / 2 ^ 12 % 2 ^ 4 = 0 then
    some { opw := BitVec.ofNat 12 v, wdata := BitVec.ofNat 32 (v / 2 ^ 16) }
  else none

/-- The operation a decoded word is, where it is one. -/
def Decoded.instr? : Decoded → Option Instr
  | .instr i => some i
  | .hostAccessError | .reservedClass | .reservedEventBits => none

/-- The instruction the decoder reads from a word numbered as the opcode table numbers it. -/
def decodeTableWord (nbits w : Nat) : Option Instr :=
  (InputOp.ofTableWord nbits w).bind fun o => (decode o).instr?

end Sys2Proof
end

