-- ==== Sys2Proof/Machine/State.lean ====
section
/-! DEFINITION. The state of the block (10_state.md R32), the reasons a step can stop, and the state after reset. -/

namespace Sys2Proof.Machine

/-- The ring storage `MEM` (R33): the written slots as (slot number, code), slot numbers strictly rising
(`Memory.wf`). A slot that is not listed is unwritten and has no value (R54). The cell is one 12-bit slot, the only
access width of the ring storage (R12; log entry 10). -/
abbrev Memory := List (Nat × Code)

/-- `FRAME[0..2]`: the bytes of the frame in transfer (R45). -/
structure Frame where
  b0 : Byte
  b1 : Byte
  b2 : Byte
  deriving DecidableEq, Repr

/-- The causes `CAUSE` can hold, under the names of 60_exceptions.md R320; their codes are `Cause.code`. Codes 6
and 7 are never written (log entry 14). -/
inductive Cause where
  | none
  | underrunEmpty
  | underrunBusy
  | overrunFull
  | overrunAborted
  | xferFail
  deriving DecidableEq, Repr

/-- What the latest operation answered the host (R13, R47(d)): a read its value, an access outside the map a bus
error (R325), every other operation no data. The model's own field (log entry 4): no operation reads it. -/
inductive Response where
  | noData
  | rdata (v : Word)
  | busError
  deriving DecidableEq, Repr

/-- The state of one instance. The fields from `mem` to `out` are the elements of R32, in its order. -/
@[ext]
structure State where
  /-- The parameters of the instance (R6, R51); no operation changes them (log entry 1). -/
  params : Params
  /-- `MEM`. -/
  mem : Memory
  /-- `WIDX`, read through `State.wr` (log entry 9). -/
  widx : Index
  /-- `RIDX`, read through `State.rd` (log entry 9). -/
  ridx : Index
  /-- `BLKPOS`. -/
  blkpos : Index
  /-- `ABORT`. -/
  abort : Bool
  /-- `ARMED`: false is Idle, true is Armed. -/
  armed : Bool
  /-- `TIME`. -/
  time : Word
  /-- `ALARM`. -/
  alarm : Word
  /-- `TPEND`. -/
  tpend : Bool
  /-- `BUSY`. -/
  busy : Bool
  /-- `FRAME[0..2]`. -/
  frame : Frame
  /-- `FPOS`. -/
  fpos : BitVec 2
  /-- `RIE`. -/
  rie : Bool
  /-- `CAUSE`. -/
  cause : Cause
  /-- `SAMPLES`. -/
  samples : Word
  /-- `UPDATES`. -/
  updates : Word
  /-- `UNDERRUNS`. -/
  underruns : Word
  /-- `OVERRUNS`. -/
  overruns : Word
  /-- `XFERERR`. -/
  xferErr : Word
  /-- `OUT`, oldest byte first. -/
  out : List Byte
  /-- The response of the latest operation (the model's own field, log entry 4). -/
  resp : Response
  /-- The pending input operations in their total order (R80, R81; the model's own field, log entry 3). -/
  input : List InputOp
  deriving DecidableEq, Repr

/-- The reasons the machine stops with a fault. No state that meets the invariant of `Safety.lean` reaches one. -/
inductive Fault where
  /-- The dispatch of a TICK popped a ring slot that no push has written since reset (R54: a fault of the model, log entry 7).
  Safe: the model stops where the block has no meaning. -/
  | unwrittenSlot
  /-- A TREQ found `BUSY = 1` with `FPOS = 3`, and `FRAME` has no element 3 (R32, R221). Safe: the model stops where
  the block has no meaning (log entry 8). -/
  | frameIndex
  deriving DecidableEq, Repr

/-- The reasons the machine gives an input no transition. -/
inductive Refusal where
  /-- An operation without a meaning yet, by its mnemonic. No arm of `exec` uses it. Safe. -/
  | notModelled (mnemonic : String)
  /-- `step` met a word of class `11` (R112). Safe. -/
  | reservedClass
  /-- `step` met a word of class `10` with `Z ≠ 0x00` (R112). Safe. -/
  | reservedEventBits
  /-- `step` met a parameter set outside R6: it describes no instance of the block (R7). Safe. -/
  | illegalParameters
  /-- `step` found no pending input: the block performs one operation per input event and none without one
  (R31; log entry 3). Safe. -/
  | noInput
  deriving DecidableEq, Repr

/-- The power-on state of the instance with parameters `p` (R32, R361): every element at its reset value, `OUT`
empty, no slot written. -/
def State.powerOn (p : Params) : State :=
  { params := p
    mem := []
    widx := 0#16
    ridx := 0#16
    blkpos := 0#16
    abort := false
    armed := false
    time := 0#32
    alarm := 0#32
    tpend := false
    busy := false
    frame := { b0 := 0x00#8, b1 := 0x00#8, b2 := 0x00#8 }
    fpos := 0#2
    rie := false
    cause := .none
    samples := 0#32
    updates := 0#32
    underruns := 0#32
    overruns := 0#32
    xferErr := 0#32
    out := []
    resp := .noData
    input := [] }

/-- The machine right after reset: the power-on state of the instance `Config.scenario` (log entry 1). Every other
instance's is `State.powerOn` of its parameters. -/
def State.reset : State := State.powerOn Config.scenario

end Sys2Proof.Machine
end

