-- ==== Sys2Proof/Machine/Index.lean ====
section
/-! DEFINITION. Index arithmetic modulo `N` by mask (00_scope.md R6, R10) and the fill levels (10_state.md R36, R37). -/

namespace Sys2Proof

/-- `M = N - 1`, the index mask (R6). -/
def Params.mask (p : Params) : Index := BitVec.ofNat 16 (p.cap - 1)

/-- `(i + 1) & M` (R10). -/
def Params.nextIdx (p : Params) (i : Index) : Index := (i + 1#16) &&& p.mask

/-- `(a - b) & M` (R10). -/
def Params.diffIdx (p : Params) (a b : Index) : Index := (a - b) &&& p.mask

/-- `PERIOD` as the 32-bit value the timer adds (R6). -/
def Params.periodWord (p : Params) : Word := BitVec.ofNat 32 p.period

namespace Machine

/-- `WIDX`, an unsigned `LOG2N`-bit value (R34): the low `LOG2N` bits of its field (log entry 9). -/
def State.wr (s : State) : Index := s.widx &&& s.params.mask

/-- `RIDX`, an unsigned `LOG2N`-bit value (R35): the low `LOG2N` bits of its field (log entry 9). -/
def State.rd (s : State) : Index := s.ridx &&& s.params.mask

/-- `AVAIL = (WIDX - RIDX) & M`, as a register-wide index (R36). -/
def State.availIdx (s : State) : Index := s.params.diffIdx s.wr s.rd

/-- `AVAIL`, an integer in `0..N-1` (R36). -/
def State.avail (s : State) : Nat := s.availIdx.toNat

/-- `FREE = M - AVAIL` (R37). -/
def State.free (s : State) : Nat := s.params.cap - 1 - s.avail

/-- The ring is empty: `RIDX == WIDX` (R38). -/
def State.isEmpty (s : State) : Bool := s.rd == s.wr

/-- The ring is full: `((WIDX + 1) & M) == RIDX` (R38). -/
def State.isFull (s : State) : Bool := s.params.nextIdx s.wr == s.rd

end Machine

end Sys2Proof
end

