-- ==== Sys2Proof/Machine/Operands.lean ====
section
/-! DEFINITION. The operand formats (30_encoding.md R106 to R109), the conversion unit (40_ring_buffer.md R146), and
the bus frame (R120 to R122). -/

namespace Sys2Proof

/-- The code of a `DATA` write: `WDATA[11:0]`, the upper bits ignored (R106). -/
def dataCode (wdata : Word) : Code := wdata.extractLsb' 0 12

/-- `ARM`, `WDATA[0]` of a `CTRL` write (R109). -/
def ctrlArm (wdata : Word) : Bool := wdata.getLsbD 0
/-- `RIE`, `WDATA[1]` of a `CTRL` write (R109). -/
def ctrlRie (wdata : Word) : Bool := wdata.getLsbD 1
/-- `BSYNC`, `WDATA[2]` of a `CTRL` write (R109). -/
def ctrlBsync (wdata : Word) : Bool := wdata.getLsbD 2

/-- 1.0 in units of 2^-149, the smallest binary32 magnitude. Every finite binary32 value is a whole number of these
units, so the conversion is exact on integers. -/
def unitOne : Nat := 2 ^ 149

/-- The meaning of a binary32 bit pattern (R108): a NaN, an infinity, or a finite value in units of 2^-149. -/
inductive Sample where
  | nan
  | negInf
  | posInf
  | finite (units : Int)
  deriving DecidableEq, Repr

/-- The sign bit of a binary32 pattern, `WDATA[31]` (R108). -/
def binSign (x : Word) : Bool := x.getLsbD 31
/-- The biased exponent, `WDATA[30:23]` (R108). -/
def binExp (x : Word) : Nat := (x.extractLsb' 23 8).toNat
/-- The fraction, `WDATA[22:0]` (R108). -/
def binFrac (x : Word) : Nat := (x.extractLsb' 0 23).toNat

/-- The magnitude of a finite pattern in units of 2^-149 (R108): `0.fraction · 2^-126` is `fraction` units, and
`1.fraction · 2^(e-127)` is `(2^23 + fraction) · 2^(e-1)` units. -/
def binUnits (x : Word) : Nat :=
  if binExp x = 0 then binFrac x else (2 ^ 23 + binFrac x) * 2 ^ (binExp x - 1)

/-- The value of a binary32 pattern (R108). -/
def sampleOf (x : Word) : Sample :=
  if binExp x = 255 then
    if binFrac x ≠ 0 then .nan else if binSign x then .negInf else .posInf
  else .finite (if binSign x then -(binUnits x : Int) else (binUnits x : Int))

/-- `min(max(s, -1), 1)` in units of 2^-149 (R146); infinities clamp. A NaN has no value to clamp. -/
def Sample.clamped : Sample → Option Int
  | .nan => none
  | .negInf => some (-(unitOne : Int))
  | .posInf => some (unitOne : Int)
  | .finite n => some (min (max n (-(unitOne : Int))) (unitOne : Int))

/-- `floor((s' + 1) * 4095 / 2 + 1/2)` for `s' = n / unitOne` (R146), as one exact integer division. -/
def roundHalfUp (n : Int) : Int := ((n + unitOne) * 4095 + unitOne) / (2 * unitOne)

/-- The conversion of a binary32 sample to a code (R146); every NaN gives 2048 (D15). -/
def convert (x : Word) : Code :=
  match (sampleOf x).clamped with
  | none => 2048#12
  | some n => BitVec.ofNat 12 (roundHalfUp n).toNat

namespace Machine

/-- `frame(c) = [P_CMD, c[11:4], {c[3:0], 0b0000}]` (R121). -/
def frameOf (p : Params) (c : Code) : Frame :=
  { b0 := BitVec.ofNat 8 p.pCmd, b1 := c.extractLsb' 4 8, b2 := c.extractLsb' 0 4 ++ 0b0000#4 }

/-- The bytes of a frame in the order they are sent (R75, R120). -/
def Frame.bytes (f : Frame) : List Byte := [f.b0, f.b1, f.b2]

/-- `FRAME[FPOS]`; `FRAME` has no element 3 (R32). -/
def Frame.at? (f : Frame) (pos : BitVec 2) : Option Byte := f.bytes[pos.toNat]?

/-- The code a frame carries, `{b1[7:0], b2[7:4]}` (R122). -/
def Frame.code (f : Frame) : Code := f.b1 ++ f.b2.extractLsb' 4 4

end Machine

end Sys2Proof
end

