-- ==== Sys2Proof/Machine/Flags.lean ====
section
/-! DEFINITION. The status flags and register read values (10_state.md R47, R53; 43_producer_refill.md R250, R251;
44_registers.md R282 to R298; 60_exceptions.md R320). -/

namespace Sys2Proof.Machine

/-- The 3-bit code of a cause (R320). -/
def Cause.code : Cause → BitVec 3
  | .none => 0#3
  | .underrunEmpty => 1#3
  | .underrunBusy => 2#3
  | .overrunFull => 3#3
  | .overrunAborted => 4#3
  | .xferFail => 5#3

/-- `refill_req = (AVAIL < LWM) and (FREE >= BLOCK_SIZE)`, a level (R250). -/
def State.refillReq (s : State) : Bool := decide (s.avail < s.params.lwm) && decide (s.params.blockSize ≤ s.free)

/-- `irq = refill_req and RIE`, a level with no latch (R251). -/
def State.irq (s : State) : Bool := s.refillReq && s.rie

/-- `zext_32(AVAIL)` (R150). -/
def State.availWord (s : State) : Word := s.availIdx.zeroExtend 32

/-- `zext_32(M - AVAIL)` (R151). -/
def State.freeWord (s : State) : Word := (s.params.mask - s.availIdx).zeroExtend 32

/-- `STATUS`: `{BLKPOS, 0b00000, CAUSE, 0b0, irq, ABORT, BUSY, ARMED, refill_req, FULL, EMPTY}` (R282, R283). -/
def State.statusWord (s : State) : Word :=
  s.blkpos ++ 0b00000#5 ++ s.cause.code ++ 0b0#1 ++ BitVec.ofBool s.irq ++ BitVec.ofBool s.abort
    ++ BitVec.ofBool s.busy ++ BitVec.ofBool s.armed ++ BitVec.ofBool s.refillReq ++ BitVec.ofBool s.isFull
    ++ BitVec.ofBool s.isEmpty

/-- `CTRL` as read: `zext_32({RIE, ARMED})`; `BSYNC` reads 0 (R285, R286). -/
def State.ctrlWord (s : State) : Word := (BitVec.ofBool s.rie ++ BitVec.ofBool s.armed).zeroExtend 32

end Sys2Proof.Machine

namespace Sys2Proof

/-- `PARAM0`: `{BLOCK_SIZE[15:0], 0b00000000000, LOG2N[4:0]}` (R296; log entry 11). -/
def Params.param0Word (p : Params) : Word := BitVec.ofNat 16 p.blockSize ++ 0#11 ++ BitVec.ofNat 5 p.log2n

/-- `PARAM1`: `{0x00, P_CMD[7:0], LWM[15:0]}` (R297). -/
def Params.param1Word (p : Params) : Word := 0x00#8 ++ BitVec.ofNat 8 p.pCmd ++ BitVec.ofNat 16 p.lwm

end Sys2Proof
end

