-- ==== Sys2Proof/Machine/Ops.lean ====
section
/-! DEFINITION. The shared operations over the state: ring storage (00_scope.md R12, 10_state.md R54), push and pop
(40_ring_buffer.md R141, R144), arming and the dispatch (41_dispatch_timer.md R181, R184), the transfer sequencer
(42_bus_transfer.md R222, R225), the bus error (60_exceptions.md R325), the reset (70_reset_and_hazards.md R360) and
the taking of an input. -/

namespace Sys2Proof.Machine

/-! ## Ring storage -/

/-- The canonical form of `MEM`: slot numbers strictly rising. -/
abbrev Memory.wf (m : Memory) : Prop := (m.map Prod.fst).Pairwise (· < ·)

/-- `MemRead(i)`: the code in slot `i`, none where the slot is unwritten (R12, R54). -/
def Memory.read : Memory → Nat → Option Code
  | [], _ => none
  | (k, c) :: m, i => if k = i then some c else Memory.read m i

/-- `MemWrite(i, v)`: stores the code `v` in slot `i` (R12), keeping the slot numbers strictly rising. -/
def Memory.write : Memory → Nat → Code → Memory
  | [], i, v => [(i, v)]
  | (k, c) :: m, i, v =>
    if i < k then (i, v) :: (k, c) :: m
    else if i = k then (i, v) :: m
    else (k, c) :: Memory.write m i v

/-! ## Responses and inputs -/

/-- The operation answers `r` (R13). -/
def respond (r : Response) (s : State) : State := { s with resp := r }

/-- The pending input is taken from the front of the list. -/
def takeInput (rest : List InputOp) (s : State) : State := { s with input := rest }

/-- A bus error: an error response and no other change (R325). -/
def busError (s : State) : State := respond .busError s

/-! ## Push (R141) -/

/-- `SAMPLES <- SAMPLES +32 1`. -/
def countSample (s : State) : State := { s with samples := s.samples + 1#32 }

/-- A dropped push: `OVERRUNS <- OVERRUNS +32 1` and its `CAUSE`; no index and no slot changes (R142). -/
def dropCode (why : Cause) (s : State) : State := { s with overruns := s.overruns + 1#32, cause := why }

/-- `ABORT <- 1`. -/
def latchAbort (s : State) : State := { s with abort := true }

/-- `MemWrite(WIDX, c)`, then `WIDX <- (WIDX + 1) & M` (R83). -/
def storeCode (c : Code) (s : State) : State :=
  { s with mem := s.mem.write s.wr.toNat c, widx := s.params.nextIdx s.wr }

/-- The three cases of `push_code`: the abort latch, then the full test, else the store (R141, R331). -/
def offerCode (c : Code) (s : State) : State :=
  if s.abort then dropCode .overrunAborted s
  else if s.isFull then latchAbort (dropCode .overrunFull s)
  else storeCode c s

/-- `BLKPOS <- BLKPOS + 1`, and at `BLOCK_SIZE` the block ends: `BLKPOS <- 0`, `ABORT <- 0`. -/
def advanceBlock (s : State) : State :=
  if (s.blkpos + 1#16).toNat = s.params.blockSize then { s with blkpos := 0#16, abort := false }
  else { s with blkpos := s.blkpos + 1#16 }

/-- `push_code(c)` (R141). -/
def pushCode (c : Code) (s : State) : State := advanceBlock (offerCode c (countSample s))

/-! ## Pop (R144) -/

/-- `RIDX <- (RIDX + 1) & M`. -/
def advanceRead (s : State) : State := { s with ridx := s.params.nextIdx s.rd }

/-- `pop()`: the slot first, then the advance (R144). None where the slot is unwritten (R54). -/
def pop (s : State) : Option (Code × State) := (s.mem.read s.rd.toNat).map fun c => (c, advanceRead s)

/-! ## Timer and dispatch (R181 to R190) -/

/-- `arm()`: Idle to Armed, with the first firing `PERIOD` ticks later; no effect when Armed (R181). -/
def armTimer (s : State) : State :=
  if s.armed then s else { s with armed := true, alarm := s.time + s.params.periodWord }

/-- `TIME <- TIME +32 1` (R182). -/
def advanceTime (s : State) : State := { s with time := s.time + 1#32 }

/-- The firing condition, tested after `TIME` has advanced (R183). -/
def State.firesNow (s : State) : Bool := s.armed && s.time == s.alarm

/-- `TPEND <- 1` (R182). -/
def setPending (s : State) : State := { s with tpend := true }

/-- Dispatch step 1: `TPEND <- 0`, before anything else (R185). -/
def clearPending (s : State) : State := { s with tpend := false }

/-- An underrun: `UNDERRUNS <- UNDERRUNS +32 1` and its `CAUSE` (R187, R189). -/
def recordUnderrun (why : Cause) (s : State) : State := { s with underruns := s.underruns + 1#32, cause := why }

/-- Loads the frame of a popped code and issues the transfer: `FRAME`, `FPOS <- 0`, `BUSY <- 1`, `UPDATES` +1 (R188). -/
def issueFrame (c : Code) (s : State) : State :=
  { s with frame := frameOf s.params c, fpos := 0#2, busy := true, updates := s.updates + 1#32 }

/-- Dispatch step 5, the return: the additive re-arm `ALARM <- ALARM +32 PERIOD`; nothing is restored (R190, R334). -/
def rearm (s : State) : State := { s with alarm := s.alarm + s.params.periodWord }

/-- Dispatch steps 2 to 4: collision, then data, then empty (R184, R186, R330). -/
def serve (s : State) : Host.Outcome State Fault Refusal :=
  if s.busy then .next (recordUnderrun .underrunBusy s)
  else if s.isEmpty then .next (recordUnderrun .underrunEmpty s)
  else
    match pop s with
    | some (c, s') => .next (issueFrame c s')
    | none => .fault .unwrittenSlot

/-- Goes on with a next state, and passes a fault or a refusal through. -/
def onNext (f : State → State) : Host.Outcome State Fault Refusal → Host.Outcome State Fault Refusal
  | .next s => .next (f s)
  | .fault r => .fault r
  | .refused r => .refused r

/-- The dispatch sequence, run inside the TICK that fires (R184, R327, R333). -/
def dispatch (s : State) : Host.Outcome State Fault Refusal := onNext rearm (serve (clearPending s))

/-- TICK (R182): the time advances, and a firing takes the timer interrupt at once. -/
def tickTimer (s : State) : Host.Outcome State Fault Refusal :=
  if (advanceTime s).firesNow then dispatch (setPending (advanceTime s)) else .next (advanceTime s)

/-! ## Bus transfer sequencer (R222, R225) -/

/-- `emit(b)`: one byte is appended to `OUT` (R12). -/
def emit (b : Byte) (s : State) : State := { s with out := s.out ++ [b] }

/-- The frame is over, sent or abandoned: `BUSY <- 0`, `FPOS <- 0` (R45). -/
def endTransfer (s : State) : State := { s with busy := false, fpos := 0#2 }

/-- `FPOS <- FPOS + 1`. -/
def advanceByte (s : State) : State := { s with fpos := s.fpos + 1#2 }

/-- TREQ (R222): hands over one byte while a frame is in transfer, else nothing (R223). -/
def sendByte (s : State) : Host.Outcome State Fault Refusal :=
  if s.busy then
    match s.frame.at? s.fpos with
    | some b =>
      if (advanceByte s).fpos = 3#2 then .next (endTransfer (emit b s))
      else .next (advanceByte (emit b s))
    | none => .fault .frameIndex
  else .next s

/-- `XFERERR <- XFERERR +32 1`, `CAUSE <- 5` (R225). -/
def countXferError (s : State) : State := { s with xferErr := s.xferErr + 1#32, cause := .xferFail }

/-- NACK (R225): the failure is counted, and the rest of a frame in transfer is abandoned. -/
def failTransfer (s : State) : State :=
  if s.busy then endTransfer (countXferError s) else countXferError s

/-! ## Control and reset -/

/-- `RIE <- v` (R287). -/
def setRie (v : Bool) (s : State) : State := { s with rie := v }

/-- `BSYNC`: `BLKPOS <- 0`, `ABORT <- 0` (R289). -/
def syncBlock (s : State) : State := { s with blkpos := 0#16, abort := false }

/-- WR.CTRL (R287): arm, then `RIE`, then `BSYNC`. -/
def writeCtrl (wdata : Word) (s : State) : State :=
  let s1 := if ctrlArm wdata then armTimer s else s
  let s2 := setRie (ctrlRie wdata) s1
  if ctrlBsync wdata then syncBlock s2 else s2

/-- RESET (R360): every element at its reset value and every slot unwritten; `OUT` keeps the bytes already delivered.
The parameters are not state of the block and the pending inputs are not in the block (log entry 19). -/
def resetBlock (s : State) : State :=
  { s with
    mem := []
    widx := 0#16
    ridx := 0#16
    blkpos := 0#16
    abort := false
    armed := false
    time := 0#32
    alarm := 0#32
    tpend := false
    busy := false
    frame := { b0 := 0x00#8, b1 := 0x00#8, b2 := 0x00#8 }
    fpos := 0#2
    rie := false
    cause := .none
    samples := 0#32
    updates := 0#32
    underruns := 0#32
    overruns := 0#32
    xferErr := 0#32 }

/-! ## The input of a step -/

/-- What a step finds to do: nothing it may do, by name, or an input with its decoding and the state without it. -/
inductive Fetched where
  | refused (r : Refusal)
  | input (d : Decoded) (s : State)
  deriving DecidableEq, Repr

/-- The next input: an illegal parameter set is no instance (R7), and the block does nothing without an input
(log entries 2 and 3). -/
def fetch (s : State) : Fetched :=
  if s.params.legal then
    match s.input with
    | [] => .refused .noInput
    | o :: rest => .input (decode o) (takeInput rest s)
  else .refused .illegalParameters

/-- The state with the word of spec/opcode_table.json as its next input; a container that holds no Operation Word
leaves no input (log entry 6). -/
def placeWord (s : State) (nbits w : Nat) : State :=
  match InputOp.ofTableWord nbits w with
  | some o => { s with input := o :: s.input }
  | none => { s with input := [] }

end Sys2Proof.Machine
end

