-- ==== Sys2Proof/Machine/Bus.lean ====
section
/-! DEFINITION. The bus transfer sequencer's operations: TREQ, NACK (42_bus_transfer.md). -/

namespace Sys2Proof.Machine

/-- TREQ: hands one byte of the frame in transfer to the bus peripheral (R222, R223). -/
def execTreq (s : State) : Host.Outcome State Fault Refusal := onNext (respond .noData) (sendByte s)

/-- NACK: counts the failed transfer and abandons the frame in transfer (R225, R226). -/
def execNack (s : State) : Host.Outcome State Fault Refusal := .next (respond .noData (failTransfer s))

end Sys2Proof.Machine
end

