-- ==== Sys2Proof/Machine/Registers.lean ====
section
/-! DEFINITION. The status, control, statistics and parameter register operations (44_registers.md). -/

namespace Sys2Proof.Machine

/-- RD.STATUS; reading does not clear `CAUSE` (R283). -/
def execRdStatus (s : State) : Host.Outcome State Fault Refusal := .next (respond (.rdata s.statusWord) s)

/-- RD.CTRL (R286). -/
def execRdCtrl (s : State) : Host.Outcome State Fault Refusal := .next (respond (.rdata s.ctrlWord) s)

/-- WR.CTRL (R287); `RDATA` none. -/
def execWrCtrl (wdata : Word) (s : State) : Host.Outcome State Fault Refusal :=
  .next (respond .noData (writeCtrl wdata s))

/-- RD.SAMPLES (R290). -/
def execRdSamples (s : State) : Host.Outcome State Fault Refusal := .next (respond (.rdata s.samples) s)

/-- RD.UPDATES (R291). -/
def execRdUpdates (s : State) : Host.Outcome State Fault Refusal := .next (respond (.rdata s.updates) s)

/-- RD.UNDERRUNS (R292). -/
def execRdUnderruns (s : State) : Host.Outcome State Fault Refusal := .next (respond (.rdata s.underruns) s)

/-- RD.OVERRUNS (R293). -/
def execRdOverruns (s : State) : Host.Outcome State Fault Refusal := .next (respond (.rdata s.overruns) s)

/-- RD.XFERERR (R294). -/
def execRdXferErr (s : State) : Host.Outcome State Fault Refusal := .next (respond (.rdata s.xferErr) s)

/-- RD.PARAM0 (R296). -/
def execRdParam0 (s : State) : Host.Outcome State Fault Refusal := .next (respond (.rdata s.params.param0Word) s)

/-- RD.PARAM1 (R297). -/
def execRdParam1 (s : State) : Host.Outcome State Fault Refusal := .next (respond (.rdata s.params.param1Word) s)

/-- RD.PERIOD (R298). -/
def execRdPeriod (s : State) : Host.Outcome State Fault Refusal := .next (respond (.rdata s.params.periodWord) s)

end Sys2Proof.Machine
end

