-- ==== Sys2Proof/Machine/Ring.lean ====
section
/-! DEFINITION. The ring buffer operations: PUSH, PUSHF, RD.AVAIL, RD.FREE (40_ring_buffer.md). -/

namespace Sys2Proof.Machine

/-- PUSH: `push_code(WDATA[11:0])`; `RDATA` none (R140). -/
def execPush (wdata : Word) (s : State) : Host.Outcome State Fault Refusal :=
  .next (respond .noData (pushCode (dataCode wdata) s))

/-- PUSHF: `push_code(convert(WDATA[31:0]))`; `RDATA` none (R145). -/
def execPushf (wdata : Word) (s : State) : Host.Outcome State Fault Refusal :=
  .next (respond .noData (pushCode (convert wdata) s))

/-- RD.AVAIL: `RDATA <- zext_32((WIDX - RIDX) & M)` (R150). -/
def execRdAvail (s : State) : Host.Outcome State Fault Refusal := .next (respond (.rdata s.availWord) s)

/-- RD.FREE: `RDATA <- zext_32(M - ((WIDX - RIDX) & M))` (R151). -/
def execRdFree (s : State) : Host.Outcome State Fault Refusal := .next (respond (.rdata s.freeWord) s)

end Sys2Proof.Machine
end

