-- ==== Sys2Proof/Machine/System.lean ====
section
/-! DEFINITION. RESET (70_reset_and_hazards.md). -/

namespace Sys2Proof.Machine

/-- RESET: returns the block to its reset state (R360). -/
def execReset (s : State) : Host.Outcome State Fault Refusal := .next (respond .noData (resetBlock s))

end Sys2Proof.Machine
end

