-- ==== Sys2Proof/Machine/Timer.lean ====
section
/-! DEFINITION. The dispatch timer's operations: TICK, RD.TIME, RD.ALARM (41_dispatch_timer.md). -/

namespace Sys2Proof.Machine

/-- TICK: one tick of the timebase, with the dispatch on a firing (R182, R184). -/
def execTick (s : State) : Host.Outcome State Fault Refusal := onNext (respond .noData) (tickTimer s)

/-- RD.TIME: `RDATA <- TIME` (R193). -/
def execRdTime (s : State) : Host.Outcome State Fault Refusal := .next (respond (.rdata s.time) s)

/-- RD.ALARM: `RDATA <- ALARM` (R194). -/
def execRdAlarm (s : State) : Host.Outcome State Fault Refusal := .next (respond (.rdata s.alarm) s)

end Sys2Proof.Machine
end

