-- ==== Sys2Proof/Machine/Dispatch.lean ====
section
/-! DEFINITION. Each operation's meaning, one arm per row of the opcode map (30_encoding.md R104). -/

namespace Sys2Proof.Machine

def exec (i : Instr) (s : State) : Host.Outcome State Fault Refusal :=
  match i with
  | .push wdata => Sys2Proof.Machine.execPush wdata s
  | .pushf wdata => Sys2Proof.Machine.execPushf wdata s
  | .rdAvail => Sys2Proof.Machine.execRdAvail s
  | .rdFree => Sys2Proof.Machine.execRdFree s
  | .rdStatus => Sys2Proof.Machine.execRdStatus s
  | .rdCtrl => Sys2Proof.Machine.execRdCtrl s
  | .wrCtrl wdata => Sys2Proof.Machine.execWrCtrl wdata s
  | .rdSamples => Sys2Proof.Machine.execRdSamples s
  | .rdUpdates => Sys2Proof.Machine.execRdUpdates s
  | .rdUnderruns => Sys2Proof.Machine.execRdUnderruns s
  | .rdOverruns => Sys2Proof.Machine.execRdOverruns s
  | .rdXferErr => Sys2Proof.Machine.execRdXferErr s
  | .rdTime => Sys2Proof.Machine.execRdTime s
  | .rdAlarm => Sys2Proof.Machine.execRdAlarm s
  | .rdParam0 => Sys2Proof.Machine.execRdParam0 s
  | .rdParam1 => Sys2Proof.Machine.execRdParam1 s
  | .rdPeriod => Sys2Proof.Machine.execRdPeriod s
  | .tick => Sys2Proof.Machine.execTick s
  | .treq => Sys2Proof.Machine.execTreq s
  | .nack => Sys2Proof.Machine.execNack s
  | .reset => Sys2Proof.Machine.execReset s

end Sys2Proof.Machine
end

