-- ==== Sys2Proof/Machine/Step.lean ====
section
/-! DEFINITION. One step: one input operation, performed whole (00_scope.md R13, 20_memory.md R80). -/

namespace Sys2Proof.Machine

/-- One step takes the next pending input and performs it: an operation by `exec`, a host access outside the map as
a bus error (R111, R325); a reserved word is refused (R112). -/
def step (s : State) : Host.Outcome State Fault Refusal :=
  match fetch s with
  | .refused r => .refused r
  | .input (.instr i) t => exec i t
  | .input .hostAccessError t => .next (busError t)
  | .input .reservedClass _ => .refused .reservedClass
  | .input .reservedEventBits _ => .refused .reservedEventBits

/-- The state whose next input is the given word of spec/opcode_table.json. An operation comes to the block from
outside it (log entry 3), so this stands for its arrival. -/
def State.withFetchWord (s : State) (nbits w : Nat) : State := placeWord s nbits w

end Sys2Proof.Machine
end

