-- ==== Sys2Proof/Machine/Assembler.lean ====
section
/-! DEFINITION. The operation syntax and the pseudo-operations (30_encoding.md R114, R115). -/

namespace Sys2Proof

/-! ## Pseudo-operations (R115) -/

/-- The operations an assembler operation stands for (R115). -/
def AsmOp.expand : AsmOp → List Instr
  | .op i => [i]
  | .arm => [.wrCtrl 0x1#32]
  | .armIe => [.wrCtrl 0x3#32]
  | .bsync => [.wrCtrl 0x4#32]
  | .bsyncIe => [.wrCtrl 0x6#32]
  | .ticks n => List.replicate n .tick
  | .send => [.treq, .treq, .treq]
  | .pushblk codes => codes.map .push
  | .pushfblk samples => samples.map .pushf

/-- The inputs a program stands for. R114 puts untagged lines in the order of the listing and leaves lines tagged for
different agents open (R81); the model puts every line, tagged or not, in the order of the listing, which is one of the
orders R81 admits (DESIGN CHOICE, log entry 15). -/
def assemble (lines : List AsmLine) : List InputOp := (lines.flatMap fun l => l.body.expand).map encode

/-! ## Decimal literals (R114): the binary32 value nearest to the literal, ties to even -/

/-- `num / den` rounded to the nearest integer, a tie to the even one. -/
def roundTiesEven (num den : Nat) : Nat :=
  let q := num / den
  let r := num % den
  if 2 * r < den then q else if 2 * r = den then q + q % 2 else q + 1

/-- The binary32 pattern, without its sign, of the value nearest to `num / den` (ties to even). The last place is
`2^shift` units of 2^-149; the significand carries into the exponent by addition, and a result past the largest
finite pattern is an infinity. -/
def nearestBinary32 (num den : Nat) : Nat :=
  let units := num * 2 ^ 149
  let shift := Nat.log2 (units / den) - 23
  min (roundTiesEven units (den * 2 ^ shift) + shift * 2 ^ 23) 0x7F800000

/-- The binary32 pattern of a decimal literal (R114). -/
def Decimal.toBinary32 (d : Decimal) : Word :=
  let num := d.digits * 10 ^ d.exp10.toNat
  let den := 10 ^ (-d.exp10).toNat
  BitVec.ofNat 32 ((if d.neg then 2 ^ 31 else 0) + nearestBinary32 num den)

/-! ## Text (R114). Conventions the rule leaves open are log entry 15. -/

/-- The value of a digit in base 10 or 16. -/
def digitValue (base : Nat) (c : Char) : Option Nat :=
  let n := c.toNat
  let v := if 48 ≤ n && n ≤ 57 then n - 48
    else if 97 ≤ n && n ≤ 102 then n - 87
    else if 65 ≤ n && n ≤ 70 then n - 55
    else base
  if v < base then some v else none

/-- The number a list of digits spells after the digits read so far, in the given base. -/
def digitsFrom (base : Nat) : List Char → Nat → Option Nat
  | [], acc => some acc
  | c :: cs, acc => (digitValue base c).bind fun v => digitsFrom base cs (acc * base + v)

/-- A non-empty list of digits. -/
def parseDigits (base : Nat) (cs : List Char) : Option Nat :=
  if cs.isEmpty then none else digitsFrom base cs 0

/-- A number: decimal, or hexadecimal after `0x` (R9). -/
def parseNumber : List Char → Option Nat
  | '0' :: 'x' :: cs => parseDigits 16 cs
  | cs => parseDigits 10 cs

/-- A 32-bit operand as a number (R114). -/
def parseWord (cs : List Char) : Option Word :=
  (parseNumber cs).bind fun n => if n < 2 ^ 32 then some (BitVec.ofNat 32 n) else none

/-- The characters before and after the first one that satisfies `sep`, if any does. -/
def cutAt (sep : Char → Bool) : List Char → Option (List Char × List Char)
  | [] => none
  | c :: cs => if sep c then some ([], cs) else (cutAt sep cs).map fun x => (c :: x.1, x.2)

/-- A leading sign. -/
def takeSign : List Char → Bool × List Char
  | '-' :: cs => (true, cs)
  | '+' :: cs => (false, cs)
  | cs => (false, cs)

/-- A decimal integer with an optional sign. -/
def parseInt (cs : List Char) : Option Int :=
  let s := takeSign cs
  (parseDigits 10 s.2).map fun n => if s.1 then -(n : Int) else (n : Int)

/-- A significand with at most one decimal point: its digits and how many of them follow the point. -/
def parseSignificand (cs : List Char) : Option (Nat × Nat) :=
  match cutAt (· == '.') cs with
  | none => (parseDigits 10 cs).map fun n => (n, 0)
  | some (whole, frac) => (parseDigits 10 (whole ++ frac)).map fun n => (n, frac.length)

/-- A decimal floating-point literal: a sign, digits, and a decimal point or an exponent or both (R114). -/
def parseDecimal (cs : List Char) : Option Decimal :=
  let s := takeSign cs
  match cutAt (fun c => c == 'e' || c == 'E') s.2 with
  | none =>
    if s.2.elem '.' then
      (parseSignificand s.2).map fun m => { neg := s.1, digits := m.1, exp10 := -(m.2 : Int) }
    else none
  | some (sig, exp) =>
    (parseSignificand sig).bind fun m =>
      (parseInt exp).map fun e => { neg := s.1, digits := m.1, exp10 := e - (m.2 : Int) }

/-- The operand of `pushf`: a number or a decimal floating-point literal (R114). -/
def parseSample (cs : List Char) : Option Word :=
  match parseWord cs with
  | some w => some w
  | none => (parseDecimal cs).map Decimal.toBinary32

/-- A word being read, put before the words after it. -/
def flushWord (acc : List Char) (rest : List (List Char)) : List (List Char) :=
  if acc.isEmpty then rest else acc.reverse :: rest

/-- The words of a line up to a `;` comment: blanks separate them, a comma is a word of its own. -/
def lineWords : List Char → List Char → List (List Char)
  | [], acc => flushWord acc []
  | c :: cs, acc =>
    if c == ';' then flushWord acc []
    else if c == ' ' || c == '\t' then flushWord acc (lineWords cs [])
    else if c == ',' then flushWord acc ([','] :: lineWords cs [])
    else lineWords cs (c :: acc)

/-- A comma-separated list of operands, at least one. -/
def parseList (one : List Char → Option Word) : List (List Char) → Option (List Word)
  | [] => none
  | [x] => (one x).map fun w => [w]
  | x :: sep :: rest =>
    if sep = [','] then (one x).bind fun w => (parseList one rest).map fun ws => w :: ws else none

/-- The operations without an operand, by their lower-case mnemonic (R114, R115). -/
def plainMnemonics : List (String × AsmOp) :=
  [("rd.avail", .op .rdAvail), ("rd.free", .op .rdFree), ("rd.status", .op .rdStatus), ("rd.ctrl", .op .rdCtrl),
   ("rd.samples", .op .rdSamples), ("rd.updates", .op .rdUpdates), ("rd.underruns", .op .rdUnderruns),
   ("rd.overruns", .op .rdOverruns), ("rd.xfererr", .op .rdXferErr), ("rd.time", .op .rdTime)]
  ++ [("rd.alarm", .op .rdAlarm), ("rd.param0", .op .rdParam0), ("rd.param1", .op .rdParam1),
   ("rd.period", .op .rdPeriod), ("tick", .op .tick), ("treq", .op .treq), ("nack", .op .nack), ("reset", .op .reset),
   ("arm", .arm), ("arm.ie", .armIe), ("bsync", .bsync), ("bsync.ie", .bsyncIe), ("send", .send)]

/-- An operation with its operands (R114, R115). -/
def parseOp (name : String) (args : List (List Char)) : Option AsmOp :=
  match args with
  | [] => plainMnemonics.lookup name
  | [x] =>
    if name = "push" then (parseWord x).map fun w => .op (.push w)
    else if name = "pushf" then (parseSample x).map fun w => .op (.pushf w)
    else if name = "wr.ctrl" then (parseWord x).map fun w => .op (.wrCtrl w)
    else if name = "ticks" then (parseNumber x).map .ticks
    else if name = "pushblk" then (parseList parseWord [x]).map .pushblk
    else if name = "pushfblk" then (parseList parseSample [x]).map .pushfblk
    else none
  | xs =>
    if name = "pushblk" then (parseList parseWord xs).map .pushblk
    else if name = "pushfblk" then (parseList parseSample xs).map .pushfblk
    else none

/-- The agent tags (R114). -/
def agentTags : List (String × Agent) :=
  [("host:", .host), ("tb:", .timebase), ("bus:", .busPeripheral), ("rst:", .resetSource)]

/-- An operation word list without its tag, checked well formed. -/
def parseBody (tag : Option Agent) : List (List Char) → Option (List AsmLine)
  | [] => none
  | name :: args =>
    (parseOp (String.ofList name) args).bind fun b =>
      let l : AsmLine := { tag := tag, body := b }
      if l.wf then some [l] else none

/-- One line of text: nothing for a blank or comment line, else one operation; none where it is no line of R114. -/
def parseLine (text : String) : Option (List AsmLine) :=
  match lineWords text.toList [] with
  | [] => some []
  | w :: ws =>
    match agentTags.lookup (String.ofList w) with
    | some a => parseBody (some a) ws
    | none => parseBody none (w :: ws)

/-- A program, one string a line. -/
def parseProgram : List String → Option (List AsmLine)
  | [] => some []
  | l :: ls => (parseLine l).bind fun a => (parseProgram ls).map fun b => a ++ b

/-- The inputs a program text stands for. -/
def assembleText (text : List String) : Option (List InputOp) := (parseProgram text).map assemble

end Sys2Proof
end

