-- ==== Sys2Proof/Safety.lean ====
section
/-! DEFINITION. The terms claims are stated in: runs and what is observed along them, the ring's contents, the
invariant (10_state.md R38, R39, R44, R45, R54, R55; 41_dispatch_timer.md R194; 42_bus_transfer.md R221), and the
host's obligations as predicates over runs (43_producer_refill.md R252 to R254), which are premises of claims and
never steps. -/

namespace Sys2Proof.Machine

/-! ## Runs -/

/-- The operations performed one after the other, stopping at the first fault or refusal (R80). -/
def execAll : List Instr → State → Host.Outcome State Fault Refusal
  | [], s => .next s
  | i :: is, s =>
    match exec i s with
    | .next t => execAll is t
    | .fault r => .fault r
    | .refused r => .refused r

/-- What `f` observes at each operation of a run, in order. `f` sees an operation and the state before it. -/
def traceOf {α : Type} (f : Instr → State → List α) : List Instr → State → List α
  | [], _ => []
  | i :: is, s =>
    f i s ++ (match exec i s with
      | .next t => traceOf f is t
      | .fault _ => []
      | .refused _ => [])

/-- The code an operation presents to the ring, if it is a push (R140, R145). -/
def pushedCode : Instr → Option Code
  | .push w => some (dataCode w)
  | .pushf w => some (convert w)
  | .rdAvail | .rdFree | .rdStatus | .rdCtrl | .wrCtrl _ | .rdSamples | .rdUpdates | .rdUnderruns | .rdOverruns
  | .rdXferErr | .rdTime | .rdAlarm | .rdParam0 | .rdParam1 | .rdPeriod | .tick | .treq | .nack | .reset => none

/-- An operation is a push (R140, R145). -/
def isPush (i : Instr) : Bool := (pushedCode i).isSome

/-- The code an operation stores: a push with the latch clear and the ring not full (R141). -/
def storedBy (i : Instr) (s : State) : List Code :=
  if s.abort || s.isFull then [] else (pushedCode i).toList

/-- The operation is a TICK that fires the timer (R183). -/
def firesOn (i : Instr) (s : State) : Bool := decide (i = .tick) && (advanceTime s).firesNow

/-- The time of the firing, if the operation fires the timer (R183). -/
def firingTimes (i : Instr) (s : State) : List Word := if firesOn i s then [s.time + 1#32] else []

/-- The time of the firing, if the operation fires the timer and finds the ring empty (R189, R195). -/
def emptyFirings (i : Instr) (s : State) : List Word := if firesOn i s && s.isEmpty then [s.time + 1#32] else []

/-- The code an operation pops: a firing that finds no frame in transfer and the ring not empty (R188). -/
def poppedBy (i : Instr) (s : State) : List Code :=
  if firesOn i s && !s.busy && !s.isEmpty then (s.mem.read s.rd.toNat).toList else []

/-! ## The ring's contents -/

/-- The slot `(RIDX + j) & M` of the `j`-th oldest unread code (R55). -/
def State.slot (s : State) (j : Nat) : Nat := ((s.rd + BitVec.ofNat 16 j) &&& s.params.mask).toNat

/-- The unread codes, oldest first (R55, R82). -/
def State.contents (s : State) : List Code := (List.range s.avail).filterMap fun j => s.mem.read (s.slot j)

/-- The bytes of the frame in transfer that have not been handed over (R45). -/
def State.unsent (s : State) : List Byte := if s.busy then s.frame.bytes.drop s.fpos.toNat else []

/-! ## The invariant -/

/-- What every operation of a legal instance keeps. -/
structure State.Inv (s : State) : Prop where
  /-- The parameters are legal (R6). -/
  legal : s.params.legal = true
  /-- `WIDX` is in `0..N-1` (R34). -/
  widx_lt : s.widx.toNat < s.params.cap
  /-- `RIDX` is in `0..N-1` (R35). -/
  ridx_lt : s.ridx.toNat < s.params.cap
  /-- `BLKPOS` is in `0..BLOCK_SIZE-1` (R39). -/
  blkpos_lt : s.blkpos.toNat < s.params.blockSize
  /-- The abort latch is never set at a block boundary (R40). -/
  abort_inside : s.abort = true → s.blkpos ≠ 0#16
  /-- `TPEND` is 0 between operations (R44). -/
  tpend_clear : s.tpend = false
  /-- While a frame is in transfer, `FPOS` is in `0..2` (R221). -/
  busy_fpos : s.busy = true → s.fpos ≠ 3#2
  /-- With no frame in transfer, `FPOS` is 0 (R221). -/
  idle_fpos : s.busy = false → s.fpos = 0#2
  /-- A frame in transfer has the instance's command byte and a zero low nibble (R122, R229). -/
  busy_frame : s.busy = true → s.frame.b0 = BitVec.ofNat 8 s.params.pCmd ∧ s.frame.b2.extractLsb' 0 4 = 0#4
  /-- `MEM` is in its canonical form. -/
  mem_wf : s.mem.wf
  /-- Only slots `0..N-1` exist (R33). -/
  mem_slots : ∀ x ∈ s.mem, x.1 < s.params.cap
  /-- Every unread slot has been written (R55). -/
  live_written : ∀ j, j < s.avail → (s.mem.read (s.slot j)).isSome = true
  /-- While Idle, `ALARM` holds its reset value (R194). -/
  idle_alarm : s.armed = false → s.alarm = 0#32
  /-- While Armed, `(ALARM - TIME) mod 2^32` is in `1..PERIOD` (R194). -/
  armed_alarm : s.armed = true → 1 ≤ (s.alarm - s.time).toNat ∧ (s.alarm - s.time).toNat ≤ s.params.period

/-! ## The host's obligations -/

/-- The operation is a read of a fill level, `AVAIL` or `FREE`, each of which gives the other (R37, R150, R151). -/
def readsLevel (i : Instr) : Bool := decide (i = .rdAvail) || decide (i = .rdFree)

/-- The operation is a read of `STATUS` that finds `REFILL == 1` (R283). -/
def seesRefill (i : Instr) (s : State) : Bool := decide (i = .rdStatus) && s.refillReq

/-- A read that lets the host push a block: it shows `FREE >= BLOCK_SIZE`, or `REFILL == 1` (R253). -/
def grantsBlock (i : Instr) (s : State) : Bool :=
  (readsLevel i && decide (s.params.blockSize ≤ s.free)) || seesRefill i s

/-- A read that lets a host with hysteresis push a block: it shows `AVAIL < LWM`, or `REFILL == 1` (R252, R254). -/
def grantsRefill (i : Instr) (s : State) : Bool := (readsLevel i && decide (s.avail < s.params.lwm)) || seesRefill i s

/-- A block starts at a block boundary, `BLKPOS == 0`: after RESET, after `BSYNC`, or where the last block ended
(R253). -/
def atBoundary (s : State) : Bool := s.blkpos == 0#16

/-- A block starts wherever the host is (R252 and R254 name no boundary). -/
def anywhere (_ : State) : Bool := true

/-- The operation restarts block framing (R289). -/
def isBsync : Instr → Bool
  | .wrCtrl w => ctrlBsync w
  | .push _ | .pushf _ | .rdAvail | .rdFree | .rdStatus | .rdCtrl | .rdSamples | .rdUpdates | .rdUnderruns
  | .rdOverruns | .rdXferErr | .rdTime | .rdAlarm | .rdParam0 | .rdParam1 | .rdPeriod | .tick | .treq | .nack
  | .reset => false

/-- The host pushes whole blocks (R253). A granting read, wherever it stands, holds until the host's next push consumes
it; a push needs a block begun and not ended, or an unconsumed grant and a place where a block may start, and a block
is exactly `BLOCK_SIZE` pushes. `left` is how many pushes of the block are still to come, `granted` whether a grant is
held. Every other operation may stand anywhere. The reading of R253 is log entry 16. -/
def pushesWholeBlocks (grants : Instr → State → Bool) (starts : State → Bool) :
    List Instr → State → (left : Nat) → (granted : Bool) → Bool
  | [], _, _, _ => true
  | i :: is, s, left, granted =>
    (!isPush i || decide (0 < left) || (granted && starts s)) &&
    (match exec i s with
      | .next t =>
        if isPush i then
          pushesWholeBlocks grants starts is t ((if left = 0 then s.params.blockSize else left) - 1) false
        else pushesWholeBlocks grants starts is t left (granted || grants i s)
      | .fault _ => false
      | .refused _ => false)

/-- One producer iteration's pushes: a block of `BLOCK_SIZE` codes while `refill_req` is 1, else nothing (R252). -/
def producerPushes (block : List Word) (s : State) : List Instr := if s.refillReq then block.map .push else []

/-! ## Interleavings (R81) -/

/-- `q` is an interleaving of one stream of operations per agent: each agent's operations stand in it in their own
order, and nothing else does (R81, R112). -/
def isInterleaving (q : List InputOp) (streams : Agent → List InputOp) : Prop :=
  (∀ o ∈ q, o.agent ≠ none) ∧ ∀ a, q.filter (fun o => decide (o.agent = some a)) = streams a

/-! ## Views for claims -/

/-- The state with the five statistics counters at given values (R49). -/
def State.withCounters (s : State) (samples updates underruns overruns xferErr : Word) : State :=
  { s with samples := samples, updates := updates, underruns := underruns, overruns := overruns, xferErr := xferErr }

/-- The operations that read a statistics counter (R290 to R294). -/
def readsCounter : Instr → Bool
  | .rdSamples | .rdUpdates | .rdUnderruns | .rdOverruns | .rdXferErr => true
  | .push _ | .pushf _ | .rdAvail | .rdFree | .rdStatus | .rdCtrl | .wrCtrl _ | .rdTime | .rdAlarm | .rdParam0
  | .rdParam1 | .rdPeriod | .tick | .treq | .nack | .reset => false

/-- The operation is a host access (classes 00 and 01, R102). -/
def isHostOp (i : Instr) : Bool := decide (i.agent = .host)

/-- The exact rational value of a finite binary32 pattern, as R108 writes it. -/
def binValue (x : Word) : ℚ :=
  (if binSign x then -1 else 1) *
    (if binExp x = 0 then (binFrac x : ℚ) / 2 ^ 23 * 2 ^ (-126 : ℤ)
     else (1 + (binFrac x : ℚ) / 2 ^ 23) * 2 ^ ((binExp x : ℤ) - 127))

/-- A binary32 pattern is a NaN (R108). -/
def isNaN (x : Word) : Bool := decide (binExp x = 255) && decide (binFrac x ≠ 0)

/-- `s' = min(max(s, -1), 1)` of R146 as a rational; the infinities clamp. Not meant for a NaN. -/
def clampedValue (x : Word) : ℚ :=
  if binExp x = 255 then (if binSign x then -1 else 1) else min (max (binValue x) (-1)) 1

end Sys2Proof.Machine
end

