-- ==== Sys2Proof/Certificates/Slice0/Obligations.lean ====
section
/-! DEFINITION. The statements for the provers. Each docstring names the rules of spec/ it formalises. In all of them
the model's own fields are its choices, no rule of spec/: `resp` holds an operation's answer, `noData` where it answers
nothing (log entry 4), and `input` holds the pending operations in their total order (log entry 3). -/

open Sys2Proof Sys2Proof.Machine

/-! ## Encoding and the step -/

/-- 30_encoding.md R104: each row's word decodes to the row's operation, with the write data of a host write, and no
other word decodes to an operation (every bit of a row is significant). -/
def Obligations.OpcodeMapDecodes : Prop :=
  (∀ w : Word,
    decode ⟨0x600#12, w⟩ = .instr (.push w) ∧ decode ⟨0x604#12, w⟩ = .instr (.pushf w) ∧
    decode ⟨0x208#12, w⟩ = .instr .rdAvail ∧ decode ⟨0x20C#12, w⟩ = .instr .rdFree ∧
    decode ⟨0x210#12, w⟩ = .instr .rdStatus ∧ decode ⟨0x214#12, w⟩ = .instr .rdCtrl ∧
    decode ⟨0x614#12, w⟩ = .instr (.wrCtrl w) ∧ decode ⟨0x218#12, w⟩ = .instr .rdSamples ∧
    decode ⟨0x21C#12, w⟩ = .instr .rdUpdates ∧ decode ⟨0x220#12, w⟩ = .instr .rdUnderruns ∧
    decode ⟨0x224#12, w⟩ = .instr .rdOverruns ∧ decode ⟨0x228#12, w⟩ = .instr .rdXferErr ∧
    decode ⟨0x22C#12, w⟩ = .instr .rdTime ∧ decode ⟨0x230#12, w⟩ = .instr .rdAlarm ∧
    decode ⟨0x234#12, w⟩ = .instr .rdParam0 ∧ decode ⟨0x238#12, w⟩ = .instr .rdParam1 ∧
    decode ⟨0x23C#12, w⟩ = .instr .rdPeriod ∧ decode ⟨0x800#12, w⟩ = .instr .tick ∧
    decode ⟨0x900#12, w⟩ = .instr .treq ∧ decode ⟨0xA00#12, w⟩ = .instr .nack ∧
    decode ⟨0xB00#12, w⟩ = .instr .reset) ∧
  ∀ (o : InputOp) (i : Instr), decode o = .instr i →
    o.opw ∈ [0x600#12, 0x604#12, 0x208#12, 0x20C#12, 0x210#12, 0x214#12, 0x614#12, 0x218#12, 0x21C#12, 0x220#12, 0x224#12,
      0x228#12, 0x22C#12, 0x230#12, 0x234#12, 0x238#12, 0x23C#12, 0x800#12, 0x900#12, 0xA00#12, 0xB00#12]

/-- Sanity: words written out bit by bit from R104, read through the opcode table's numbering. The place of `WDATA`
in bits 47:16 is the model's choice (log entry 6). -/
def Obligations.WrittenOutWordsDecode : Prop :=
  decodeTableWord 16 0b0000_011000000000 = some (.push 0#32) ∧
  decodeTableWord 48 (0xBF800000 * 2 ^ 16 + 0b011000000100) = some (.pushf 0xBF800000#32) ∧
  decodeTableWord 16 0b0000_001000010000 = some .rdStatus ∧
  decodeTableWord 48 (0x3 * 2 ^ 16 + 0b011000010100) = some (.wrCtrl 0x3#32) ∧
  decodeTableWord 16 0b0000_100000000000 = some .tick ∧
  decodeTableWord 16 0b0000_101000000000 = some .nack ∧
  decodeTableWord 16 0b0000_110000000000 = none

/-- Decoding and encoding agree in both directions: the encoding of every operation, with every operand, decodes to
it; and an input that decodes to an operation is that operation's encoding, up to the write data that only a host
write carries (R100, R104, R105; log entry 17). -/
def Obligations.DecodeAndEncodeAgree : Prop :=
  (∀ i : Instr, decode (encode i) = .instr i) ∧
  ∀ (o : InputOp) (i : Instr), decode o = .instr i → encode i = o.carried

/-- R112: a word of class `11`, or of class `10` with `Z ≠ 0x00`, is refused. -/
def Obligations.ReservedWordsAreRefused : Prop :=
  ∀ (s : State) (o : InputOp) (rest : List InputOp), s.params.legal = true → s.input = o :: rest →
    (o.opw.extractLsb' 10 2 = 0b11#2 → step s = .refused .reservedClass) ∧
    (o.opw.extractLsb' 10 2 = 0b10#2 → o.opw.extractLsb' 0 8 ≠ 0x00#8 → step s = .refused .reservedEventBits)

/-- R72, R111, R325: a host access that is not a row of R104 ends in a bus error and changes nothing else. That a bus
error is a next state is the model's reading (log entry 5). -/
def Obligations.AccessOutsideMapIsBusError : Prop :=
  ∀ (s : State) (o : InputOp) (rest : List InputOp), s.params.legal = true → s.input = o :: rest →
    (o.opw.extractLsb' 10 2 = 0b00#2 ∨ o.opw.extractLsb' 10 2 = 0b01#2) →
    o.opw ∉ [0x600#12, 0x604#12, 0x614#12, 0x208#12, 0x20C#12, 0x210#12, 0x214#12, 0x218#12, 0x21C#12, 0x220#12, 0x224#12,
      0x228#12, 0x22C#12, 0x230#12, 0x234#12, 0x238#12, 0x23C#12] →
    step s = .next { s with input := rest, resp := .busError }

/-- R13, R80: a step takes the next input and, where it decodes to an operation, is that operation's meaning at the
state without the input. The list of inputs is the model's choice (log entry 3). -/
def Obligations.StepRunsDecodedOperation : Prop :=
  ∀ (s : State) (o : InputOp) (rest : List InputOp) (i : Instr), s.params.legal = true → s.input = o :: rest →
    decode o = .instr i → step s = exec i { s with input := rest }

/-- R7: a parameter set outside the values of R6 is refused, and only such a set is. -/
def Obligations.IllegalParametersAreRefused : Prop :=
  ∀ s : State,
    ¬ ((1 ≤ s.params.log2n ∧ s.params.log2n ≤ 16) ∧
       (1 ≤ s.params.blockSize ∧ s.params.blockSize ≤ 2 ^ s.params.log2n - 1) ∧
       (1 ≤ s.params.lwm ∧ s.params.lwm ≤ 2 ^ s.params.log2n - 1) ∧
       (1 ≤ s.params.period ∧ s.params.period ≤ 2 ^ 32 - 1) ∧ s.params.pCmd ≤ 255) ↔
    step s = .refused .illegalParameters

/-- Where a step is refused: an illegal parameter set (R7), no input (the model's choice, log entry 3), a reserved
word (R112); never for want of a meaning. -/
def Obligations.StepIsRefusedOnlyByName : Prop :=
  ∀ (s : State) (r : Refusal), step s = .refused r →
    (r = .illegalParameters ∧ s.params.legal = false) ∨ (r = .noInput ∧ s.input = []) ∨
    ∃ o rest, s.input = o :: rest ∧
      ((r = .reservedClass ∧ o.opw.extractLsb' 10 2 = 0b11#2) ∨
       (r = .reservedEventBits ∧ o.opw.extractLsb' 10 2 = 0b10#2 ∧ o.opw.extractLsb' 0 8 ≠ 0x00#8))

/-- R80: a list of pending operations is performed one after the other, each on the state the one before it left;
the pending list itself is not seen by any operation. -/
def Obligations.PendingListRunsInOrder : Prop :=
  ∀ (ops : List Instr) (rest : List InputOp) (s : State), s.params.legal = true →
    Host.Core.run Sys2Proof.core ops.length { s with input := ops.map encode ++ rest } =
      execAll ops { s with input := rest }

/-- R81, R321, R365: every interleaving of the agents' operations is a run of the block, whatever they are: from a state
that meets the invariant each input is performed, none is refused, and nothing stops the block. -/
def Obligations.EveryInterleavingRuns : Prop :=
  ∀ (q rest : List InputOp) (streams : Agent → List InputOp) (s : State), s.Inv → isInterleaving q streams →
    ∃ t, Host.Core.run Sys2Proof.core q.length { s with input := q ++ rest } = .next t ∧ t.Inv ∧ t.input = rest

/-- R332, with R81: the outcomes of two simultaneous events depend on their order, and both orders are runs. -/
def Obligations.OrderOfSimultaneousEventsMatters : Prop :=
  (∀ (s : State) (w : Word), s.params.legal = true → s.armed = true → s.alarm = s.time + 1#32 → s.busy = false →
    s.avail = 0 → s.abort = false →
    (∃ t, execAll [.tick, .push w] s = .next t ∧ t.underruns = s.underruns + 1#32 ∧ t.updates = s.updates ∧ t.avail = 1) ∧
    (∃ t, execAll [.push w, .tick] s = .next t ∧ t.underruns = s.underruns ∧ t.updates = s.updates + 1#32 ∧
      t.avail = 0 ∧ t.frame = frameOf s.params (w.extractLsb' 0 12))) ∧
  (∀ s : State, s.Inv → s.armed = true → s.alarm = s.time + 1#32 → s.busy = true → s.fpos = 2#2 → 0 < s.avail →
    (∃ t, execAll [.tick, .treq] s = .next t ∧ t.underruns = s.underruns + 1#32 ∧ t.cause = .underrunBusy ∧
      t.updates = s.updates ∧ t.busy = false) ∧
    (∃ t, execAll [.treq, .tick] s = .next t ∧ t.underruns = s.underruns ∧ t.updates = s.updates + 1#32 ∧
      t.busy = true ∧ t.fpos = 0#2)) ∧
  (∀ s : State, s.busy = true → s.fpos = 2#2 →
    (∃ t, execAll [.nack, .treq] s = .next t ∧ t.out = s.out) ∧
    (∃ t, execAll [.treq, .nack] s = .next t ∧ t.out = s.out ++ [s.frame.b2]))

/-! ## Reset -/

/-- R360: RESET gives every element its reset value and every slot none, and keeps `OUT`; parameters unchanged. That the
pending inputs stay is the model's reading (log entry 19). -/
def Obligations.ResetWritesEveryElement : Prop :=
  ∀ s : State, ∃ t, exec .reset s = .next t ∧
    (∀ a, t.mem.read a = none) ∧ t.widx = 0#16 ∧ t.ridx = 0#16 ∧ t.blkpos = 0#16 ∧ t.abort = false ∧ t.armed = false ∧
    t.time = 0#32 ∧ t.alarm = 0#32 ∧ t.tpend = false ∧ t.busy = false ∧ t.frame = ⟨0x00#8, 0x00#8, 0x00#8⟩ ∧ t.fpos = 0#2 ∧
    t.rie = false ∧ t.cause = .none ∧ t.samples = 0#32 ∧ t.updates = 0#32 ∧ t.underruns = 0#32 ∧ t.overruns = 0#32 ∧
    t.xferErr = 0#32 ∧ t.out = s.out ∧ t.params = s.params ∧ t.input = s.input ∧ t.resp = .noData ∧
    (s.params.legal = true → t.statusWord = 0x00000005#32)

/-- R361: power-on is the state RESET gives with `OUT` empty; the timer is Idle, `irq` is 0 and `refill_req` is 1. -/
def Obligations.PowerOnIsTheResetState : Prop :=
  ∀ p : Params, p.legal = true →
    (∀ s : State, s.params = p → s.input = [] → exec .reset { s with out := [] } = .next (State.powerOn p)) ∧
    (State.powerOn p).out = [] ∧ (State.powerOn p).armed = false ∧ (State.powerOn p).irq = false ∧
    (State.powerOn p).refillReq = true

/-- The invariant holds of the power-on state of every legal instance. -/
def Obligations.PowerOnMeetsInvariant : Prop :=
  ∀ p : Params, p.legal = true → (State.powerOn p).Inv

/-- Every step keeps the invariant: indices and block position in range (R34, R35, R39), `TPEND` 0 (R44), `FPOS`
legal (R221), unread slots written (R55), the storage canonical, `ALARM` within `PERIOD` of `TIME` (R194). -/
def Obligations.StepKeepsInvariant : Prop :=
  ∀ s t : State, s.Inv → step s = .next t → t.Inv

/-- R54, R55, R321: from a state that meets the invariant no step faults, so the dispatch never reads an unwritten
slot. -/
def Obligations.InvariantStatesNeverFault : Prop :=
  ∀ (s : State) (f : Fault), s.Inv → step s ≠ .fault f

/-! ## Ring buffer -/

/-- R141, R142: `push_code`, for PUSH with `c = WDATA[11:0]` and PUSHF with `c = convert(WDATA)`: both run in every
legal state; the three cases, the block framing, and nothing else changed. -/
def Obligations.PushCodeProcedure : Prop :=
  ∀ (s : State) (w : Word) (i : Instr) (c : Code), s.params.legal = true →
    ((i = .push w ∧ c = w.extractLsb' 0 12) ∨ (i = .pushf w ∧ c = convert w)) →
    ∃ t, exec i s = .next t ∧ t.samples = s.samples + 1#32 ∧
      (s.abort = true → t.overruns = s.overruns + 1#32 ∧ t.cause = .overrunAborted ∧ t.widx = s.widx ∧ t.mem = s.mem) ∧
      (s.abort = false → (s.wr.toNat + 1) % 2 ^ s.params.log2n = s.rd.toNat →
        t.overruns = s.overruns + 1#32 ∧ t.cause = .overrunFull ∧ t.widx = s.widx ∧ t.mem = s.mem) ∧
      (s.abort = false → (s.wr.toNat + 1) % 2 ^ s.params.log2n ≠ s.rd.toNat →
        t.overruns = s.overruns ∧ t.cause = s.cause ∧ t.widx.toNat = (s.wr.toNat + 1) % 2 ^ s.params.log2n ∧
        t.mem.read s.wr.toNat = some c ∧ ∀ a, a ≠ s.wr.toNat → t.mem.read a = s.mem.read a) ∧
      (s.blkpos.toNat + 1 = s.params.blockSize → t.blkpos = 0#16 ∧ t.abort = false) ∧
      (s.blkpos.toNat + 1 ≠ s.params.blockSize → t.blkpos = s.blkpos + 1#16 ∧
        (t.abort = true ↔ s.abort = true ∨ (s.wr.toNat + 1) % 2 ^ s.params.log2n = s.rd.toNat)) ∧
      t = { s with mem := t.mem, widx := t.widx, blkpos := t.blkpos, abort := t.abort, cause := t.cause,
                   samples := t.samples, overruns := t.overruns, resp := .noData }

/-- R145: PUSHF is PUSH of the converted code, whatever the sample. -/
def Obligations.PushfPushesConvertedCode : Prop :=
  ∀ (s : State) (x y : Word), y.extractLsb' 0 12 = convert x → exec (.pushf x) s = exec (.push y) s

/-- R146: the conversion is the exact rational formula, NaN gives 2048. The value of a bit pattern is R108's, which the
spec marks as general knowledge (log entry 12). -/
def Obligations.ConvertIsExactFormula : Prop :=
  ∀ x : Word,
    (isNaN x = true → convert x = 2048#12) ∧
    (isNaN x = false → ((convert x).toNat : ℤ) = ⌊(clampedValue x + 1) * 4095 / 2 + 1 / 2⌋)

/-- R147, with the values of log entry 12: the conversion is monotone, each code has the interval the rule gives, and
the only ties are the zeros. -/
def Obligations.ConvertIntervalsAndTies : Prop :=
  (∀ x y : Word, isNaN x = false → isNaN y = false → clampedValue x ≤ clampedValue y → convert x ≤ convert y) ∧
  (∀ x : Word, isNaN x = false →
    (∀ k : Nat, 1 ≤ k → k ≤ 4094 →
      ((convert x).toNat = k ↔
        ((2 * k - 1 : ℚ) / 4095 ≤ clampedValue x + 1 ∧ clampedValue x + 1 < (2 * k + 1 : ℚ) / 4095))) ∧
    ((convert x).toNat = 0 ↔ clampedValue x + 1 < 1 / 4095) ∧
    ((convert x).toNat = 4095 ↔ 4094 / 4095 ≤ clampedValue x) ∧
    ((∃ m : ℤ, (clampedValue x + 1) * 4095 / 2 + 1 / 2 = m) ↔ x = 0x00000000#32 ∨ x = 0x80000000#32))

/-- R150, R151: the fill levels read as the modular difference and its complement, and reading changes nothing. -/
def Obligations.FillLevelReads : Prop :=
  ∀ s : State, s.params.legal = true →
    exec .rdAvail s = .next { s with
      resp := .rdata (BitVec.ofNat 32 ((s.wr.toNat + 2 ^ s.params.log2n - s.rd.toNat) % 2 ^ s.params.log2n)) } ∧
    exec .rdFree s = .next { s with
      resp := .rdata (BitVec.ofNat 32
        (2 ^ s.params.log2n - 1 - (s.wr.toNat + 2 ^ s.params.log2n - s.rd.toNat) % 2 ^ s.params.log2n)) }

/-- R38, R152: `AVAIL + FREE = N - 1` in every state of a legal instance; empty and full are what R38 says. -/
def Obligations.OneSlotIsAlwaysKeptEmpty : Prop :=
  ∀ s : State, s.params.legal = true →
    s.avail + s.free = 2 ^ s.params.log2n - 1 ∧ s.avail ≤ 2 ^ s.params.log2n - 1 ∧
    (s.avail = 0 ↔ s.rd = s.wr) ∧
    (s.free = 0 ↔ (s.wr.toNat + 1) % 2 ^ s.params.log2n = s.rd.toNat)

/-- R153: a stored push raises `AVAIL` by 1, a pop lowers it by 1, every other operation but RESET leaves it. -/
def Obligations.AvailChangesByOne : Prop :=
  ∀ (i : Instr) (s t : State), s.params.legal = true → exec i s = .next t → i ≠ .reset →
    (storedBy i s ≠ [] → t.avail = s.avail + 1 ∧ s.avail + 2 ≤ 2 ^ s.params.log2n) ∧
    (poppedBy i s ≠ [] → t.avail + 1 = s.avail) ∧
    (storedBy i s = [] → poppedBy i s = [] → t.avail = s.avail)

/-- R82, R154: along every run without RESET the codes leave the ring in the order they were stored: what was in the
ring followed by what is stored is what is popped followed by what is left. -/
def Obligations.CodesLeaveInPushOrder : Prop :=
  ∀ (ops : List Instr) (s t : State), s.Inv → .reset ∉ ops → execAll ops s = .next t →
    s.contents ++ traceOf storedBy ops s = traceOf poppedBy ops s ++ t.contents ∧
    s.contents.length = s.avail ∧ t.contents.length = t.avail

/-- R143: `SAMPLES` counts every push, and grows by the stored pushes and the overruns together. -/
def Obligations.SamplesAreStoredPlusOverruns : Prop :=
  ∀ (ops : List Instr) (s t : State), .reset ∉ ops → execAll ops s = .next t →
    t.samples = s.samples + BitVec.ofNat 32 (ops.countP isPush) ∧
    t.samples - s.samples = BitVec.ofNat 32 (traceOf storedBy ops s).length + (t.overruns - s.overruns)

/-! ## Timer and dispatch -/

/-- R181, R287, R289: the `CTRL` write: arming anchors the schedule once, `RIE` is always written, `BSYNC` restarts
the block; nothing else changes. -/
def Obligations.CtrlWriteEffects : Prop :=
  ∀ (s : State) (w : Word),
    exec (.wrCtrl w) s = .next { s with
      armed := s.armed || w.getLsbD 0
      alarm := if w.getLsbD 0 = true ∧ s.armed = false then s.time + BitVec.ofNat 32 s.params.period else s.alarm
      rie := w.getLsbD 1
      blkpos := if w.getLsbD 2 then 0#16 else s.blkpos
      abort := if w.getLsbD 2 then false else s.abort
      resp := .noData }

/-- R183, with R180: a TICK that does not fire advances `TIME` and nothing else; Idle never fires. -/
def Obligations.TickWithoutFiring : Prop :=
  ∀ s : State, (s.armed = false ∨ s.time + 1#32 ≠ s.alarm) →
    exec .tick s = .next { s with time := s.time + 1#32, resp := .noData }

/-- R184, R187 to R191: the firing's three cases, each with `TPEND` 0 and the additive re-arm, and nothing else
changed. -/
def Obligations.DispatchTable : Prop :=
  ∀ s : State, s.params.legal = true → s.armed = true → s.time + 1#32 = s.alarm →
    (s.busy = true →
      exec .tick s = .next { s with
        time := s.time + 1#32, tpend := false, underruns := s.underruns + 1#32, cause := .underrunBusy
        alarm := s.alarm + BitVec.ofNat 32 s.params.period, resp := .noData }) ∧
    (s.busy = false → s.rd = s.wr →
      exec .tick s = .next { s with
        time := s.time + 1#32, tpend := false, underruns := s.underruns + 1#32, cause := .underrunEmpty
        alarm := s.alarm + BitVec.ofNat 32 s.params.period, resp := .noData }) ∧
    (∀ c : Code, s.busy = false → s.rd ≠ s.wr → s.mem.read s.rd.toNat = some c →
      exec .tick s = .next { s with
        time := s.time + 1#32, tpend := false
        ridx := BitVec.ofNat 16 ((s.rd.toNat + 1) % 2 ^ s.params.log2n)
        frame := ⟨BitVec.ofNat 8 s.params.pCmd, c.extractLsb' 4 8, c.extractLsb' 0 4 ++ 0b0000#4⟩
        fpos := 0#2, busy := true, updates := s.updates + 1#32
        alarm := s.alarm + BitVec.ofNat 32 s.params.period, resp := .noData })

/-- R54: a firing that would pop a slot never written is a fault of the model. -/
def Obligations.UnwrittenSlotPopFaults : Prop :=
  ∀ s : State, s.armed = true → s.time + 1#32 = s.alarm → s.busy = false → s.rd ≠ s.wr →
    s.mem.read s.rd.toNat = none → exec .tick s = .fault .unwrittenSlot

/-- R192: after an arming write at `TIME = t0`, the firings of any run without RESET are at `t0 + PERIOD`,
`t0 + 2·PERIOD`, ..., one for every `PERIOD` ticks, whatever else is interleaved; `ALARM` has advanced by exactly the
periods elapsed, and after each firing it is one period ahead of `TIME`. -/
def Obligations.FiringsDoNotDrift : Prop :=
  (∀ (s0 s t : State) (w : Word) (ops : List Instr), s0.params.legal = true → s0.armed = false → w.getLsbD 0 = true →
    exec (.wrCtrl w) s0 = .next s → .reset ∉ ops → execAll ops s = .next t →
    traceOf firingTimes ops s =
      (List.range (ops.count .tick / s0.params.period)).map
        (fun k => s0.time + BitVec.ofNat 32 ((k + 1) * s0.params.period)) ∧
    t.time = s0.time + BitVec.ofNat 32 (ops.count .tick) ∧
    t.alarm = s0.time + BitVec.ofNat 32 ((ops.count .tick / s0.params.period + 1) * s0.params.period)) ∧
  ∀ (i : Instr) (s t : State), firesOn i s = true → exec i s = .next t →
    t.alarm - t.time = BitVec.ofNat 32 s.params.period

/-- R196: every firing is one update or one underrun, and each update is one popped code. -/
def Obligations.FiringsAreUpdatesOrUnderruns : Prop :=
  ∀ (ops : List Instr) (s t : State), .reset ∉ ops → execAll ops s = .next t →
    t.updates + t.underruns = s.updates + s.underruns + BitVec.ofNat 32 (traceOf firingTimes ops s).length ∧
    t.updates = s.updates + BitVec.ofNat 32 (traceOf poppedBy ops s).length

/-- R41, R288: no operation but RESET takes the timer from Armed to Idle, and only a `CTRL` write with `ARM = 1` takes
it from Idle to Armed. -/
def Obligations.OnlyResetDisarms : Prop :=
  ∀ (i : Instr) (s t : State), exec i s = .next t →
    (s.armed = true → t.armed = false → i = .reset) ∧
    (s.armed = false → t.armed = true → ∃ w : Word, i = .wrCtrl w ∧ w.getLsbD 0 = true)

/-! ## Bus transfer -/

/-- R222, R223: TREQ hands over one byte of the frame in transfer, the third one ends it, and with no frame in
transfer it does nothing. -/
def Obligations.TransferRequestHandsOverOneByte : Prop :=
  ∀ s : State,
    (s.busy = false → exec .treq s = .next { s with resp := .noData }) ∧
    (s.busy = true → s.fpos = 0#2 →
      exec .treq s = .next { s with out := s.out ++ [s.frame.b0], fpos := 1#2, resp := .noData }) ∧
    (s.busy = true → s.fpos = 1#2 →
      exec .treq s = .next { s with out := s.out ++ [s.frame.b1], fpos := 2#2, resp := .noData }) ∧
    (s.busy = true → s.fpos = 2#2 →
      exec .treq s = .next { s with out := s.out ++ [s.frame.b2], busy := false, fpos := 0#2, resp := .noData })

/-- The model's choice for a state no run reaches (log entry 8): with a frame in transfer and `FPOS = 3`, TREQ finds
no element of `FRAME` and faults. -/
def Obligations.FrameIndexThreeFaults : Prop :=
  ∀ s : State, s.busy = true → s.fpos = 3#2 → exec .treq s = .fault .frameIndex

/-- R225: NACK counts the failure, records its cause and abandons the frame in transfer; nothing else changes. -/
def Obligations.NackAbandonsTheFrame : Prop :=
  ∀ s : State,
    exec .nack s = .next { s with
      xferErr := s.xferErr + 1#32, cause := .xferFail, busy := false
      fpos := if s.busy then 0#2 else s.fpos, resp := .noData }

/-- R227: along every run `OUT` grows by a leading part of what was unsent and of each issued frame, in the order the
codes were popped; without NACK and RESET nothing is lost: the whole frames, but for the bytes still to come. -/
def Obligations.OutputIsLeadingPartsOfFrames : Prop :=
  ∀ (ops : List Instr) (s t : State), s.Inv → execAll ops s = .next t →
    (∃ pieces : List (List Byte), t.out = s.out ++ pieces.flatten ∧
      List.Forall₂ List.IsPrefix pieces
        (s.unsent :: (traceOf poppedBy ops s).map
          (fun c => [BitVec.ofNat 8 s.params.pCmd, c.extractLsb' 4 8, c.extractLsb' 0 4 ++ 0b0000#4]))) ∧
    (.nack ∉ ops → .reset ∉ ops →
      t.out ++ t.unsent = s.out ++ s.unsent ++ ((traceOf poppedBy ops s).map
        (fun c => [BitVec.ofNat 8 s.params.pCmd, c.extractLsb' 4 8, c.extractLsb' 0 4 ++ 0b0000#4])).flatten)

/-- R121, R122: a frame has the command byte and a zero low nibble in byte 2, and carries its code. -/
def Obligations.FrameCarriesItsCode : Prop :=
  ∀ (p : Params) (c : Code), p.legal = true →
    (frameOf p c).b0.toNat = p.pCmd ∧ (frameOf p c).b2.extractLsb' 0 4 = 0b0000#4 ∧
    (frameOf p c).b1 ++ (frameOf p c).b2.extractLsb' 4 4 = c

/-- R115: `send` sends one whole frame if one is in transfer from its first byte, and nothing if none is. -/
def Obligations.SendPseudoSendsWholeFrame : Prop :=
  ∀ s : State,
    (s.busy = true → s.fpos = 0#2 →
      execAll (AsmOp.expand .send) s = .next { s with
        out := s.out ++ [s.frame.b0, s.frame.b1, s.frame.b2], busy := false, resp := .noData }) ∧
    (s.busy = false → execAll (AsmOp.expand .send) s = .next { s with resp := .noData })

/-! ## Registers -/

/-- R282, R283, with the codes of R320: every field of `STATUS`; reading changes nothing; EMPTY and FULL are never both
1 in a legal instance. -/
def Obligations.StatusFields : Prop :=
  ∀ s : State, ∃ v : Word, exec .rdStatus s = .next { s with resp := .rdata v } ∧
    v.getLsbD 0 = decide (s.rd = s.wr) ∧ v.getLsbD 1 = decide ((s.wr + 1#16) &&& s.params.mask = s.rd) ∧
    v.getLsbD 2 = decide (s.avail < s.params.lwm ∧ s.params.blockSize ≤ s.free) ∧ v.getLsbD 3 = s.armed ∧
    v.getLsbD 4 = s.busy ∧ v.getLsbD 5 = s.abort ∧
    v.getLsbD 6 = (decide (s.avail < s.params.lwm ∧ s.params.blockSize ≤ s.free) && s.rie) ∧ v.getLsbD 7 = false ∧
    v.extractLsb' 8 3 = (match s.cause with
      | .none => 0#3 | .underrunEmpty => 1#3 | .underrunBusy => 2#3
      | .overrunFull => 3#3 | .overrunAborted => 4#3 | .xferFail => 5#3) ∧
    v.extractLsb' 11 5 = 0#5 ∧ v.extractLsb' 16 16 = s.blkpos ∧
    (s.params.legal = true → ¬ (v.getLsbD 0 = true ∧ v.getLsbD 1 = true))

/-- R286: `CTRL` reads `ARMED` in bit 0, `RIE` in bit 1 and 0 elsewhere; reading changes nothing. -/
def Obligations.CtrlReads : Prop :=
  ∀ s : State, ∃ v : Word, exec .rdCtrl s = .next { s with resp := .rdata v } ∧
    v.getLsbD 0 = s.armed ∧ v.getLsbD 1 = s.rie ∧ v.extractLsb' 2 30 = 0#30

/-- R193, R194, R290 to R294: the counters, `TIME` and `ALARM` read as they are, and reading changes nothing. -/
def Obligations.CounterAndTimerReads : Prop :=
  ∀ s : State,
    exec .rdSamples s = .next { s with resp := .rdata s.samples } ∧
    exec .rdUpdates s = .next { s with resp := .rdata s.updates } ∧
    exec .rdUnderruns s = .next { s with resp := .rdata s.underruns } ∧
    exec .rdOverruns s = .next { s with resp := .rdata s.overruns } ∧
    exec .rdXferErr s = .next { s with resp := .rdata s.xferErr } ∧
    exec .rdTime s = .next { s with resp := .rdata s.time } ∧
    exec .rdAlarm s = .next { s with resp := .rdata s.alarm }

/-- R296, R297, R298: the parameters of a legal instance read whole, in their fields; reading changes nothing. -/
def Obligations.ParameterReads : Prop :=
  ∀ s : State, s.params.legal = true →
    exec .rdParam0 s = .next { s with
      resp := .rdata (BitVec.ofNat 32 (s.params.blockSize * 2 ^ 16 + s.params.log2n)) } ∧
    exec .rdParam1 s = .next { s with resp := .rdata (BitVec.ofNat 32 (s.params.pCmd * 2 ^ 16 + s.params.lwm)) } ∧
    ∃ v : Word, exec .rdPeriod s = .next { s with resp := .rdata v } ∧ v.toNat = s.params.period ∧ v ≠ 0#32

/-- R250: with the default watermark and blocks of at most half the ring, the refill signal is the watermark test
alone. -/
def Obligations.DefaultWatermarkAloneRefills : Prop :=
  ∀ s : State, s.params.legal = true → s.params.lwm = s.params.defaultLwm → s.params.blockSize ≤ s.params.cap / 2 →
    (s.refillReq = true ↔ s.avail < s.params.lwm)

/-- R251: `irq` rises only by a pop or by writing `RIE = 1`, and falls only by a push, by writing `RIE = 0`, or by
RESET; it is 0 whenever `RIE` is 0. -/
def Obligations.IrqRisesAndFalls : Prop :=
  ∀ (i : Instr) (s t : State), s.params.legal = true → exec i s = .next t →
    (s.irq = false → t.irq = true → poppedBy i s ≠ [] ∨ ∃ w : Word, i = .wrCtrl w ∧ w.getLsbD 1 = true) ∧
    (s.irq = true → t.irq = false →
      storedBy i s ≠ [] ∨ (∃ w : Word, i = .wrCtrl w ∧ w.getLsbD 1 = false) ∨ i = .reset) ∧
    (t.rie = false → t.irq = false)

/-! ## Events, counters and ownership -/

/-- R48, R320, R330, R331: `CAUSE` changes only with an event, to the event's code, and each event counts in its own
counter. -/
def Obligations.EventsRecordTheirCause : Prop :=
  ∀ (i : Instr) (s t : State), exec i s = .next t →
    (i = .reset → t.cause = .none) ∧
    (i ≠ .reset → t.cause ≠ s.cause →
      t.underruns = s.underruns + 1#32 ∨ t.overruns = s.overruns + 1#32 ∨ t.xferErr = s.xferErr + 1#32) ∧
    (i ≠ .reset → t.underruns ≠ s.underruns →
      i = .tick ∧ t.cause = if s.busy then .underrunBusy else .underrunEmpty) ∧
    (i ≠ .reset → t.overruns ≠ s.overruns →
      isPush i = true ∧ t.cause = if s.abort then .overrunAborted else .overrunFull) ∧
    (i ≠ .reset → t.xferErr ≠ s.xferErr → i = .nack ∧ t.cause = .xferFail)

/-- R49, R295: each counter changes only by `+32 1` at its events: a push, a pop, an underrun, a dropped push, a NACK. -/
def Obligations.CountersCountTheirEvents : Prop :=
  ∀ (i : Instr) (s t : State), i ≠ .reset → exec i s = .next t →
    t.samples = s.samples + (if isPush i then 1#32 else 0#32) ∧
    t.updates = s.updates + (if firesOn i s && !s.busy && !s.isEmpty then 1#32 else 0#32) ∧
    t.underruns = s.underruns + (if firesOn i s && (s.busy || s.isEmpty) then 1#32 else 0#32) ∧
    t.overruns = s.overruns + (if isPush i && (s.abort || s.isFull) then 1#32 else 0#32) ∧
    t.xferErr = s.xferErr + (if i = .nack then 1#32 else 0#32)

/-- R49, R295: no operation's behaviour depends on a counter's value: but for the reads of the counters themselves,
two states that differ only in the counters stay so. -/
def Obligations.CountersNeverGateBehaviour : Prop :=
  ∀ (i : Instr) (s : State) (a b c d e : Word), readsCounter i = false →
    match exec i s, exec i (s.withCounters a b c d e) with
    | .next t, .next t' => t'.withCounters 0 0 0 0 0 = t.withCounters 0 0 0 0 0
    | .fault f, .fault f' => f = f'
    | .refused r, .refused r' => r = r'
    | _, _ => False

/-- R32, R50: who may write what. Every element but those an operation's row of R32 names is unchanged by it, and no
operation changes the parameters or the pending inputs. -/
def Obligations.EveryElementHasItsWriters : Prop :=
  ∀ (i : Instr) (s t : State), exec i s = .next t → i ≠ .reset →
    t.params = s.params ∧ t.input = s.input ∧ (s.tpend = false → t.tpend = false) ∧
    (isPush i = false → t.mem = s.mem ∧ t.widx = s.widx ∧ t.samples = s.samples ∧ t.overruns = s.overruns) ∧
    (isPush i = false → isBsync i = false → t.blkpos = s.blkpos ∧ t.abort = s.abort) ∧
    (i ≠ .tick → t.ridx = s.ridx ∧ t.time = s.time ∧ t.tpend = s.tpend ∧ t.frame = s.frame ∧ t.updates = s.updates ∧
      t.underruns = s.underruns) ∧
    ((∀ w : Word, i = .wrCtrl w → w.getLsbD 0 = false) → t.armed = s.armed) ∧
    ((∀ w : Word, i = .wrCtrl w → w.getLsbD 0 = false ∨ s.armed = true) → i ≠ .tick → t.alarm = s.alarm) ∧
    ((∀ w : Word, i ≠ .wrCtrl w) → t.rie = s.rie) ∧
    (i ≠ .tick → i ≠ .treq → i ≠ .nack → t.busy = s.busy ∧ t.fpos = s.fpos) ∧
    (isPush i = false → i ≠ .tick → i ≠ .nack → t.cause = s.cause) ∧
    (i ≠ .nack → t.xferErr = s.xferErr) ∧ (i ≠ .treq → t.out = s.out)

/-- R228: no host operation waits on, reads or writes `FRAME` or `FPOS`. -/
def Obligations.HostNeverTouchesTheFrame : Prop :=
  ∀ (i : Instr) (s : State) (f : Frame) (pos : BitVec 2), isHostOp i = true →
    ∃ t, exec i s = .next t ∧ t.frame = s.frame ∧ t.fpos = s.fpos ∧
      exec i { s with frame := f, fpos := pos } = .next { t with frame := f, fpos := pos }

/-- R52, R280: the host sees the indices and the slots only through `AVAIL`: two legal states that differ only in
them, at the same `AVAIL`, answer every host operation alike. -/
def Obligations.HostSeesIndicesOnlyThroughAvail : Prop :=
  ∀ (i : Instr) (s t t' : State) (m : Memory) (wi ri : Index), s.params.legal = true → isHostOp i = true →
    ({ s with mem := m, widx := wi, ridx := ri } : State).avail = s.avail →
    exec i s = .next t → exec i { s with mem := m, widx := wi, ridx := ri } = .next t' →
    t'.resp = t.resp ∧ t'.refillReq = t.refillReq ∧ t'.irq = t.irq

/-! ## The host's obligations as premises -/

/-- R88: until the host's next push, and without RESET, a read `AVAIL` is an upper bound and a read `FREE` a lower
bound. -/
def Obligations.StaleFillLevelsErrSafely : Prop :=
  ∀ (ops : List Instr) (s t : State), s.params.legal = true → (∀ i ∈ ops, isPush i = false) → .reset ∉ ops →
    execAll ops s = .next t → t.avail ≤ s.avail ∧ s.free ≤ t.free

/-- R257: a host that follows R253 (whole blocks, each begun at a block boundary on a grant that no push of its own has
consumed) never overruns, whatever else it does, RESET apart. The premise is the model's reading of R253 (log
entry 16). -/
def Obligations.NoOverrunUnderRefillPolicy : Prop :=
  ∀ (ops : List Instr) (s t : State), s.Inv → .reset ∉ ops →
    pushesWholeBlocks grantsBlock atBoundary ops s 0 false = true → execAll ops s = .next t →
    t.overruns = s.overruns ∧ (traceOf storedBy ops s).length = ops.countP isPush

/-- R254: a host that begins a block only on a read that shows `AVAIL < LWM` or `REFILL == 1`, one block for each such
read, keeps `AVAIL` below `LWM + BLOCK_SIZE`, wherever its blocks start and whatever else it does. The premise is the
model's reading of R252 to R254 (log entry 16). -/
def Obligations.HysteresisBoundsTheFill : Prop :=
  ∀ (ops : List Instr) (s t : State), s.Inv → s.avail < s.params.lwm + s.params.blockSize →
    pushesWholeBlocks grantsRefill anywhere ops s 0 false = true → execAll ops s = .next t →
    t.avail < s.params.lwm + s.params.blockSize

/-- R255: after a state with `AVAIL >= LWM`, no firing within `LWM * PERIOD` ticks finds the ring empty, whatever the
host does meanwhile (RESET apart). -/
def Obligations.WatermarkCoversTheSleep : Prop :=
  ∀ (ops : List Instr) (s : State), s.Inv → s.params.lwm ≤ s.avail → .reset ∉ ops →
    ops.count .tick ≤ s.params.lwm * s.params.period → traceOf emptyFirings ops s = []

/-- R262: the end-to-end scenario, for every content of the blocks and every command byte, with `PERIOD = 1` so that
one tick after arming pops: four blocks bring `AVAIL` to 256 and no refill is requested; after one pop it is 255 and
refill is requested; the next producer iteration brings it to 319. -/
def Obligations.EndToEndRefillScenario : Prop :=
  ∀ (cmd : Nat) (pre nxt : List Word), cmd ≤ 255 → pre.length = 256 → nxt.length = 64 →
    ∃ t1 t2 t3 : State,
      execAll (pre.map .push) (State.powerOn ⟨9, 64, 256, 1, cmd⟩) = .next t1 ∧ t1.avail = 256 ∧ t1.free = 255 ∧
      t1.blkpos = 0#16 ∧ t1.overruns = 0#32 ∧ t1.refillReq = false ∧
      execAll [.wrCtrl 0x1#32, .tick] t1 = .next t2 ∧ t2.avail = 255 ∧ t2.refillReq = true ∧
      execAll (producerPushes nxt t2) t2 = .next t3 ∧ t3.avail = 319
end

