-- ==== Sys2Proof/Laws/State.lean ====
section
/-! SUPPORT. One lemma per field per update of the state, so that no later proof unfolds a record update. -/

namespace Sys2Proof.Machine

/-! ### `respond` -/

@[simp] theorem respond_params (r : Response) (s : State) : (respond r s).params = s.params := rfl
@[simp] theorem respond_mem (r : Response) (s : State) : (respond r s).mem = s.mem := rfl
@[simp] theorem respond_widx (r : Response) (s : State) : (respond r s).widx = s.widx := rfl
@[simp] theorem respond_ridx (r : Response) (s : State) : (respond r s).ridx = s.ridx := rfl
@[simp] theorem respond_blkpos (r : Response) (s : State) : (respond r s).blkpos = s.blkpos := rfl
@[simp] theorem respond_abort (r : Response) (s : State) : (respond r s).abort = s.abort := rfl
@[simp] theorem respond_armed (r : Response) (s : State) : (respond r s).armed = s.armed := rfl
@[simp] theorem respond_time (r : Response) (s : State) : (respond r s).time = s.time := rfl
@[simp] theorem respond_alarm (r : Response) (s : State) : (respond r s).alarm = s.alarm := rfl
@[simp] theorem respond_tpend (r : Response) (s : State) : (respond r s).tpend = s.tpend := rfl
@[simp] theorem respond_busy (r : Response) (s : State) : (respond r s).busy = s.busy := rfl
@[simp] theorem respond_frame (r : Response) (s : State) : (respond r s).frame = s.frame := rfl
@[simp] theorem respond_fpos (r : Response) (s : State) : (respond r s).fpos = s.fpos := rfl
@[simp] theorem respond_rie (r : Response) (s : State) : (respond r s).rie = s.rie := rfl
@[simp] theorem respond_cause (r : Response) (s : State) : (respond r s).cause = s.cause := rfl
@[simp] theorem respond_samples (r : Response) (s : State) : (respond r s).samples = s.samples := rfl
@[simp] theorem respond_updates (r : Response) (s : State) : (respond r s).updates = s.updates := rfl
@[simp] theorem respond_underruns (r : Response) (s : State) : (respond r s).underruns = s.underruns := rfl
@[simp] theorem respond_overruns (r : Response) (s : State) : (respond r s).overruns = s.overruns := rfl
@[simp] theorem respond_xferErr (r : Response) (s : State) : (respond r s).xferErr = s.xferErr := rfl
@[simp] theorem respond_out (r : Response) (s : State) : (respond r s).out = s.out := rfl
@[simp] theorem respond_resp (r : Response) (s : State) : (respond r s).resp = r := rfl
@[simp] theorem respond_input (r : Response) (s : State) : (respond r s).input = s.input := rfl

/-! ### `takeInput` -/

@[simp] theorem takeInput_params (q : List InputOp) (s : State) : (takeInput q s).params = s.params := rfl
@[simp] theorem takeInput_mem (q : List InputOp) (s : State) : (takeInput q s).mem = s.mem := rfl
@[simp] theorem takeInput_widx (q : List InputOp) (s : State) : (takeInput q s).widx = s.widx := rfl
@[simp] theorem takeInput_ridx (q : List InputOp) (s : State) : (takeInput q s).ridx = s.ridx := rfl
@[simp] theorem takeInput_blkpos (q : List InputOp) (s : State) : (takeInput q s).blkpos = s.blkpos := rfl
@[simp] theorem takeInput_abort (q : List InputOp) (s : State) : (takeInput q s).abort = s.abort := rfl
@[simp] theorem takeInput_armed (q : List InputOp) (s : State) : (takeInput q s).armed = s.armed := rfl
@[simp] theorem takeInput_time (q : List InputOp) (s : State) : (takeInput q s).time = s.time := rfl
@[simp] theorem takeInput_alarm (q : List InputOp) (s : State) : (takeInput q s).alarm = s.alarm := rfl
@[simp] theorem takeInput_tpend (q : List InputOp) (s : State) : (takeInput q s).tpend = s.tpend := rfl
@[simp] theorem takeInput_busy (q : List InputOp) (s : State) : (takeInput q s).busy = s.busy := rfl
@[simp] theorem takeInput_frame (q : List InputOp) (s : State) : (takeInput q s).frame = s.frame := rfl
@[simp] theorem takeInput_fpos (q : List InputOp) (s : State) : (takeInput q s).fpos = s.fpos := rfl
@[simp] theorem takeInput_rie (q : List InputOp) (s : State) : (takeInput q s).rie = s.rie := rfl
@[simp] theorem takeInput_cause (q : List InputOp) (s : State) : (takeInput q s).cause = s.cause := rfl
@[simp] theorem takeInput_samples (q : List InputOp) (s : State) : (takeInput q s).samples = s.samples := rfl
@[simp] theorem takeInput_updates (q : List InputOp) (s : State) : (takeInput q s).updates = s.updates := rfl
@[simp] theorem takeInput_underruns (q : List InputOp) (s : State) : (takeInput q s).underruns = s.underruns := rfl
@[simp] theorem takeInput_overruns (q : List InputOp) (s : State) : (takeInput q s).overruns = s.overruns := rfl
@[simp] theorem takeInput_xferErr (q : List InputOp) (s : State) : (takeInput q s).xferErr = s.xferErr := rfl
@[simp] theorem takeInput_out (q : List InputOp) (s : State) : (takeInput q s).out = s.out := rfl
@[simp] theorem takeInput_resp (q : List InputOp) (s : State) : (takeInput q s).resp = s.resp := rfl
@[simp] theorem takeInput_input (q : List InputOp) (s : State) : (takeInput q s).input = q := rfl

/-! ### `countSample` -/

@[simp] theorem countSample_params (s : State) : (countSample s).params = s.params := rfl
@[simp] theorem countSample_mem (s : State) : (countSample s).mem = s.mem := rfl
@[simp] theorem countSample_widx (s : State) : (countSample s).widx = s.widx := rfl
@[simp] theorem countSample_ridx (s : State) : (countSample s).ridx = s.ridx := rfl
@[simp] theorem countSample_blkpos (s : State) : (countSample s).blkpos = s.blkpos := rfl
@[simp] theorem countSample_abort (s : State) : (countSample s).abort = s.abort := rfl
@[simp] theorem countSample_armed (s : State) : (countSample s).armed = s.armed := rfl
@[simp] theorem countSample_time (s : State) : (countSample s).time = s.time := rfl
@[simp] theorem countSample_alarm (s : State) : (countSample s).alarm = s.alarm := rfl
@[simp] theorem countSample_tpend (s : State) : (countSample s).tpend = s.tpend := rfl
@[simp] theorem countSample_busy (s : State) : (countSample s).busy = s.busy := rfl
@[simp] theorem countSample_frame (s : State) : (countSample s).frame = s.frame := rfl
@[simp] theorem countSample_fpos (s : State) : (countSample s).fpos = s.fpos := rfl
@[simp] theorem countSample_rie (s : State) : (countSample s).rie = s.rie := rfl
@[simp] theorem countSample_cause (s : State) : (countSample s).cause = s.cause := rfl
@[simp] theorem countSample_samples (s : State) : (countSample s).samples = s.samples + 1#32 := rfl
@[simp] theorem countSample_updates (s : State) : (countSample s).updates = s.updates := rfl
@[simp] theorem countSample_underruns (s : State) : (countSample s).underruns = s.underruns := rfl
@[simp] theorem countSample_overruns (s : State) : (countSample s).overruns = s.overruns := rfl
@[simp] theorem countSample_xferErr (s : State) : (countSample s).xferErr = s.xferErr := rfl
@[simp] theorem countSample_out (s : State) : (countSample s).out = s.out := rfl
@[simp] theorem countSample_resp (s : State) : (countSample s).resp = s.resp := rfl
@[simp] theorem countSample_input (s : State) : (countSample s).input = s.input := rfl

/-! ### `dropCode` -/

@[simp] theorem dropCode_params (c : Cause) (s : State) : (dropCode c s).params = s.params := rfl
@[simp] theorem dropCode_mem (c : Cause) (s : State) : (dropCode c s).mem = s.mem := rfl
@[simp] theorem dropCode_widx (c : Cause) (s : State) : (dropCode c s).widx = s.widx := rfl
@[simp] theorem dropCode_ridx (c : Cause) (s : State) : (dropCode c s).ridx = s.ridx := rfl
@[simp] theorem dropCode_blkpos (c : Cause) (s : State) : (dropCode c s).blkpos = s.blkpos := rfl
@[simp] theorem dropCode_abort (c : Cause) (s : State) : (dropCode c s).abort = s.abort := rfl
@[simp] theorem dropCode_armed (c : Cause) (s : State) : (dropCode c s).armed = s.armed := rfl
@[simp] theorem dropCode_time (c : Cause) (s : State) : (dropCode c s).time = s.time := rfl
@[simp] theorem dropCode_alarm (c : Cause) (s : State) : (dropCode c s).alarm = s.alarm := rfl
@[simp] theorem dropCode_tpend (c : Cause) (s : State) : (dropCode c s).tpend = s.tpend := rfl
@[simp] theorem dropCode_busy (c : Cause) (s : State) : (dropCode c s).busy = s.busy := rfl
@[simp] theorem dropCode_frame (c : Cause) (s : State) : (dropCode c s).frame = s.frame := rfl
@[simp] theorem dropCode_fpos (c : Cause) (s : State) : (dropCode c s).fpos = s.fpos := rfl
@[simp] theorem dropCode_rie (c : Cause) (s : State) : (dropCode c s).rie = s.rie := rfl
@[simp] theorem dropCode_cause (c : Cause) (s : State) : (dropCode c s).cause = c := rfl
@[simp] theorem dropCode_samples (c : Cause) (s : State) : (dropCode c s).samples = s.samples := rfl
@[simp] theorem dropCode_updates (c : Cause) (s : State) : (dropCode c s).updates = s.updates := rfl
@[simp] theorem dropCode_underruns (c : Cause) (s : State) : (dropCode c s).underruns = s.underruns := rfl
@[simp] theorem dropCode_overruns (c : Cause) (s : State) : (dropCode c s).overruns = s.overruns + 1#32 := rfl
@[simp] theorem dropCode_xferErr (c : Cause) (s : State) : (dropCode c s).xferErr = s.xferErr := rfl
@[simp] theorem dropCode_out (c : Cause) (s : State) : (dropCode c s).out = s.out := rfl
@[simp] theorem dropCode_resp (c : Cause) (s : State) : (dropCode c s).resp = s.resp := rfl
@[simp] theorem dropCode_input (c : Cause) (s : State) : (dropCode c s).input = s.input := rfl

/-! ### `latchAbort` -/

@[simp] theorem latchAbort_params (s : State) : (latchAbort s).params = s.params := rfl
@[simp] theorem latchAbort_mem (s : State) : (latchAbort s).mem = s.mem := rfl
@[simp] theorem latchAbort_widx (s : State) : (latchAbort s).widx = s.widx := rfl
@[simp] theorem latchAbort_ridx (s : State) : (latchAbort s).ridx = s.ridx := rfl
@[simp] theorem latchAbort_blkpos (s : State) : (latchAbort s).blkpos = s.blkpos := rfl
@[simp] theorem latchAbort_abort (s : State) : (latchAbort s).abort = true := rfl
@[simp] theorem latchAbort_armed (s : State) : (latchAbort s).armed = s.armed := rfl
@[simp] theorem latchAbort_time (s : State) : (latchAbort s).time = s.time := rfl
@[simp] theorem latchAbort_alarm (s : State) : (latchAbort s).alarm = s.alarm := rfl
@[simp] theorem latchAbort_tpend (s : State) : (latchAbort s).tpend = s.tpend := rfl
@[simp] theorem latchAbort_busy (s : State) : (latchAbort s).busy = s.busy := rfl
@[simp] theorem latchAbort_frame (s : State) : (latchAbort s).frame = s.frame := rfl
@[simp] theorem latchAbort_fpos (s : State) : (latchAbort s).fpos = s.fpos := rfl
@[simp] theorem latchAbort_rie (s : State) : (latchAbort s).rie = s.rie := rfl
@[simp] theorem latchAbort_cause (s : State) : (latchAbort s).cause = s.cause := rfl
@[simp] theorem latchAbort_samples (s : State) : (latchAbort s).samples = s.samples := rfl
@[simp] theorem latchAbort_updates (s : State) : (latchAbort s).updates = s.updates := rfl
@[simp] theorem latchAbort_underruns (s : State) : (latchAbort s).underruns = s.underruns := rfl
@[simp] theorem latchAbort_overruns (s : State) : (latchAbort s).overruns = s.overruns := rfl
@[simp] theorem latchAbort_xferErr (s : State) : (latchAbort s).xferErr = s.xferErr := rfl
@[simp] theorem latchAbort_out (s : State) : (latchAbort s).out = s.out := rfl
@[simp] theorem latchAbort_resp (s : State) : (latchAbort s).resp = s.resp := rfl
@[simp] theorem latchAbort_input (s : State) : (latchAbort s).input = s.input := rfl

/-! ### `storeCode` -/

@[simp] theorem storeCode_params (c : Code) (s : State) : (storeCode c s).params = s.params := rfl
@[simp] theorem storeCode_mem (c : Code) (s : State) : (storeCode c s).mem = s.mem.write s.wr.toNat c := rfl
@[simp] theorem storeCode_widx (c : Code) (s : State) : (storeCode c s).widx = s.params.nextIdx s.wr := rfl
@[simp] theorem storeCode_ridx (c : Code) (s : State) : (storeCode c s).ridx = s.ridx := rfl
@[simp] theorem storeCode_blkpos (c : Code) (s : State) : (storeCode c s).blkpos = s.blkpos := rfl
@[simp] theorem storeCode_abort (c : Code) (s : State) : (storeCode c s).abort = s.abort := rfl
@[simp] theorem storeCode_armed (c : Code) (s : State) : (storeCode c s).armed = s.armed := rfl
@[simp] theorem storeCode_time (c : Code) (s : State) : (storeCode c s).time = s.time := rfl
@[simp] theorem storeCode_alarm (c : Code) (s : State) : (storeCode c s).alarm = s.alarm := rfl
@[simp] theorem storeCode_tpend (c : Code) (s : State) : (storeCode c s).tpend = s.tpend := rfl
@[simp] theorem storeCode_busy (c : Code) (s : State) : (storeCode c s).busy = s.busy := rfl
@[simp] theorem storeCode_frame (c : Code) (s : State) : (storeCode c s).frame = s.frame := rfl
@[simp] theorem storeCode_fpos (c : Code) (s : State) : (storeCode c s).fpos = s.fpos := rfl
@[simp] theorem storeCode_rie (c : Code) (s : State) : (storeCode c s).rie = s.rie := rfl
@[simp] theorem storeCode_cause (c : Code) (s : State) : (storeCode c s).cause = s.cause := rfl
@[simp] theorem storeCode_samples (c : Code) (s : State) : (storeCode c s).samples = s.samples := rfl
@[simp] theorem storeCode_updates (c : Code) (s : State) : (storeCode c s).updates = s.updates := rfl
@[simp] theorem storeCode_underruns (c : Code) (s : State) : (storeCode c s).underruns = s.underruns := rfl
@[simp] theorem storeCode_overruns (c : Code) (s : State) : (storeCode c s).overruns = s.overruns := rfl
@[simp] theorem storeCode_xferErr (c : Code) (s : State) : (storeCode c s).xferErr = s.xferErr := rfl
@[simp] theorem storeCode_out (c : Code) (s : State) : (storeCode c s).out = s.out := rfl
@[simp] theorem storeCode_resp (c : Code) (s : State) : (storeCode c s).resp = s.resp := rfl
@[simp] theorem storeCode_input (c : Code) (s : State) : (storeCode c s).input = s.input := rfl

/-! ### `advanceRead` -/

@[simp] theorem advanceRead_params (s : State) : (advanceRead s).params = s.params := rfl
@[simp] theorem advanceRead_mem (s : State) : (advanceRead s).mem = s.mem := rfl
@[simp] theorem advanceRead_widx (s : State) : (advanceRead s).widx = s.widx := rfl
@[simp] theorem advanceRead_ridx (s : State) : (advanceRead s).ridx = s.params.nextIdx s.rd := rfl
@[simp] theorem advanceRead_blkpos (s : State) : (advanceRead s).blkpos = s.blkpos := rfl
@[simp] theorem advanceRead_abort (s : State) : (advanceRead s).abort = s.abort := rfl
@[simp] theorem advanceRead_armed (s : State) : (advanceRead s).armed = s.armed := rfl
@[simp] theorem advanceRead_time (s : State) : (advanceRead s).time = s.time := rfl
@[simp] theorem advanceRead_alarm (s : State) : (advanceRead s).alarm = s.alarm := rfl
@[simp] theorem advanceRead_tpend (s : State) : (advanceRead s).tpend = s.tpend := rfl
@[simp] theorem advanceRead_busy (s : State) : (advanceRead s).busy = s.busy := rfl
@[simp] theorem advanceRead_frame (s : State) : (advanceRead s).frame = s.frame := rfl
@[simp] theorem advanceRead_fpos (s : State) : (advanceRead s).fpos = s.fpos := rfl
@[simp] theorem advanceRead_rie (s : State) : (advanceRead s).rie = s.rie := rfl
@[simp] theorem advanceRead_cause (s : State) : (advanceRead s).cause = s.cause := rfl
@[simp] theorem advanceRead_samples (s : State) : (advanceRead s).samples = s.samples := rfl
@[simp] theorem advanceRead_updates (s : State) : (advanceRead s).updates = s.updates := rfl
@[simp] theorem advanceRead_underruns (s : State) : (advanceRead s).underruns = s.underruns := rfl
@[simp] theorem advanceRead_overruns (s : State) : (advanceRead s).overruns = s.overruns := rfl
@[simp] theorem advanceRead_xferErr (s : State) : (advanceRead s).xferErr = s.xferErr := rfl
@[simp] theorem advanceRead_out (s : State) : (advanceRead s).out = s.out := rfl
@[simp] theorem advanceRead_resp (s : State) : (advanceRead s).resp = s.resp := rfl
@[simp] theorem advanceRead_input (s : State) : (advanceRead s).input = s.input := rfl

/-! ### `advanceTime` -/

@[simp] theorem advanceTime_params (s : State) : (advanceTime s).params = s.params := rfl
@[simp] theorem advanceTime_mem (s : State) : (advanceTime s).mem = s.mem := rfl
@[simp] theorem advanceTime_widx (s : State) : (advanceTime s).widx = s.widx := rfl
@[simp] theorem advanceTime_ridx (s : State) : (advanceTime s).ridx = s.ridx := rfl
@[simp] theorem advanceTime_blkpos (s : State) : (advanceTime s).blkpos = s.blkpos := rfl
@[simp] theorem advanceTime_abort (s : State) : (advanceTime s).abort = s.abort := rfl
@[simp] theorem advanceTime_armed (s : State) : (advanceTime s).armed = s.armed := rfl
@[simp] theorem advanceTime_time (s : State) : (advanceTime s).time = s.time + 1#32 := rfl
@[simp] theorem advanceTime_alarm (s : State) : (advanceTime s).alarm = s.alarm := rfl
@[simp] theorem advanceTime_tpend (s : State) : (advanceTime s).tpend = s.tpend := rfl
@[simp] theorem advanceTime_busy (s : State) : (advanceTime s).busy = s.busy := rfl
@[simp] theorem advanceTime_frame (s : State) : (advanceTime s).frame = s.frame := rfl
@[simp] theorem advanceTime_fpos (s : State) : (advanceTime s).fpos = s.fpos := rfl
@[simp] theorem advanceTime_rie (s : State) : (advanceTime s).rie = s.rie := rfl
@[simp] theorem advanceTime_cause (s : State) : (advanceTime s).cause = s.cause := rfl
@[simp] theorem advanceTime_samples (s : State) : (advanceTime s).samples = s.samples := rfl
@[simp] theorem advanceTime_updates (s : State) : (advanceTime s).updates = s.updates := rfl
@[simp] theorem advanceTime_underruns (s : State) : (advanceTime s).underruns = s.underruns := rfl
@[simp] theorem advanceTime_overruns (s : State) : (advanceTime s).overruns = s.overruns := rfl
@[simp] theorem advanceTime_xferErr (s : State) : (advanceTime s).xferErr = s.xferErr := rfl
@[simp] theorem advanceTime_out (s : State) : (advanceTime s).out = s.out := rfl
@[simp] theorem advanceTime_resp (s : State) : (advanceTime s).resp = s.resp := rfl
@[simp] theorem advanceTime_input (s : State) : (advanceTime s).input = s.input := rfl

/-! ### `setPending` -/

@[simp] theorem setPending_params (s : State) : (setPending s).params = s.params := rfl
@[simp] theorem setPending_mem (s : State) : (setPending s).mem = s.mem := rfl
@[simp] theorem setPending_widx (s : State) : (setPending s).widx = s.widx := rfl
@[simp] theorem setPending_ridx (s : State) : (setPending s).ridx = s.ridx := rfl
@[simp] theorem setPending_blkpos (s : State) : (setPending s).blkpos = s.blkpos := rfl
@[simp] theorem setPending_abort (s : State) : (setPending s).abort = s.abort := rfl
@[simp] theorem setPending_armed (s : State) : (setPending s).armed = s.armed := rfl
@[simp] theorem setPending_time (s : State) : (setPending s).time = s.time := rfl
@[simp] theorem setPending_alarm (s : State) : (setPending s).alarm = s.alarm := rfl
@[simp] theorem setPending_tpend (s : State) : (setPending s).tpend = true := rfl
@[simp] theorem setPending_busy (s : State) : (setPending s).busy = s.busy := rfl
@[simp] theorem setPending_frame (s : State) : (setPending s).frame = s.frame := rfl
@[simp] theorem setPending_fpos (s : State) : (setPending s).fpos = s.fpos := rfl
@[simp] theorem setPending_rie (s : State) : (setPending s).rie = s.rie := rfl
@[simp] theorem setPending_cause (s : State) : (setPending s).cause = s.cause := rfl
@[simp] theorem setPending_samples (s : State) : (setPending s).samples = s.samples := rfl
@[simp] theorem setPending_updates (s : State) : (setPending s).updates = s.updates := rfl
@[simp] theorem setPending_underruns (s : State) : (setPending s).underruns = s.underruns := rfl
@[simp] theorem setPending_overruns (s : State) : (setPending s).overruns = s.overruns := rfl
@[simp] theorem setPending_xferErr (s : State) : (setPending s).xferErr = s.xferErr := rfl
@[simp] theorem setPending_out (s : State) : (setPending s).out = s.out := rfl
@[simp] theorem setPending_resp (s : State) : (setPending s).resp = s.resp := rfl
@[simp] theorem setPending_input (s : State) : (setPending s).input = s.input := rfl

/-! ### `clearPending` -/

@[simp] theorem clearPending_params (s : State) : (clearPending s).params = s.params := rfl
@[simp] theorem clearPending_mem (s : State) : (clearPending s).mem = s.mem := rfl
@[simp] theorem clearPending_widx (s : State) : (clearPending s).widx = s.widx := rfl
@[simp] theorem clearPending_ridx (s : State) : (clearPending s).ridx = s.ridx := rfl
@[simp] theorem clearPending_blkpos (s : State) : (clearPending s).blkpos = s.blkpos := rfl
@[simp] theorem clearPending_abort (s : State) : (clearPending s).abort = s.abort := rfl
@[simp] theorem clearPending_armed (s : State) : (clearPending s).armed = s.armed := rfl
@[simp] theorem clearPending_time (s : State) : (clearPending s).time = s.time := rfl
@[simp] theorem clearPending_alarm (s : State) : (clearPending s).alarm = s.alarm := rfl
@[simp] theorem clearPending_tpend (s : State) : (clearPending s).tpend = false := rfl
@[simp] theorem clearPending_busy (s : State) : (clearPending s).busy = s.busy := rfl
@[simp] theorem clearPending_frame (s : State) : (clearPending s).frame = s.frame := rfl
@[simp] theorem clearPending_fpos (s : State) : (clearPending s).fpos = s.fpos := rfl
@[simp] theorem clearPending_rie (s : State) : (clearPending s).rie = s.rie := rfl
@[simp] theorem clearPending_cause (s : State) : (clearPending s).cause = s.cause := rfl
@[simp] theorem clearPending_samples (s : State) : (clearPending s).samples = s.samples := rfl
@[simp] theorem clearPending_updates (s : State) : (clearPending s).updates = s.updates := rfl
@[simp] theorem clearPending_underruns (s : State) : (clearPending s).underruns = s.underruns := rfl
@[simp] theorem clearPending_overruns (s : State) : (clearPending s).overruns = s.overruns := rfl
@[simp] theorem clearPending_xferErr (s : State) : (clearPending s).xferErr = s.xferErr := rfl
@[simp] theorem clearPending_out (s : State) : (clearPending s).out = s.out := rfl
@[simp] theorem clearPending_resp (s : State) : (clearPending s).resp = s.resp := rfl
@[simp] theorem clearPending_input (s : State) : (clearPending s).input = s.input := rfl

/-! ### `recordUnderrun` -/

@[simp] theorem recordUnderrun_params (c : Cause) (s : State) : (recordUnderrun c s).params = s.params := rfl
@[simp] theorem recordUnderrun_mem (c : Cause) (s : State) : (recordUnderrun c s).mem = s.mem := rfl
@[simp] theorem recordUnderrun_widx (c : Cause) (s : State) : (recordUnderrun c s).widx = s.widx := rfl
@[simp] theorem recordUnderrun_ridx (c : Cause) (s : State) : (recordUnderrun c s).ridx = s.ridx := rfl
@[simp] theorem recordUnderrun_blkpos (c : Cause) (s : State) : (recordUnderrun c s).blkpos = s.blkpos := rfl
@[simp] theorem recordUnderrun_abort (c : Cause) (s : State) : (recordUnderrun c s).abort = s.abort := rfl
@[simp] theorem recordUnderrun_armed (c : Cause) (s : State) : (recordUnderrun c s).armed = s.armed := rfl
@[simp] theorem recordUnderrun_time (c : Cause) (s : State) : (recordUnderrun c s).time = s.time := rfl
@[simp] theorem recordUnderrun_alarm (c : Cause) (s : State) : (recordUnderrun c s).alarm = s.alarm := rfl
@[simp] theorem recordUnderrun_tpend (c : Cause) (s : State) : (recordUnderrun c s).tpend = s.tpend := rfl
@[simp] theorem recordUnderrun_busy (c : Cause) (s : State) : (recordUnderrun c s).busy = s.busy := rfl
@[simp] theorem recordUnderrun_frame (c : Cause) (s : State) : (recordUnderrun c s).frame = s.frame := rfl
@[simp] theorem recordUnderrun_fpos (c : Cause) (s : State) : (recordUnderrun c s).fpos = s.fpos := rfl
@[simp] theorem recordUnderrun_rie (c : Cause) (s : State) : (recordUnderrun c s).rie = s.rie := rfl
@[simp] theorem recordUnderrun_cause (c : Cause) (s : State) : (recordUnderrun c s).cause = c := rfl
@[simp] theorem recordUnderrun_samples (c : Cause) (s : State) : (recordUnderrun c s).samples = s.samples := rfl
@[simp] theorem recordUnderrun_updates (c : Cause) (s : State) : (recordUnderrun c s).updates = s.updates := rfl
@[simp] theorem recordUnderrun_underruns (c : Cause) (s : State) : (recordUnderrun c s).underruns = s.underruns + 1#32 := rfl
@[simp] theorem recordUnderrun_overruns (c : Cause) (s : State) : (recordUnderrun c s).overruns = s.overruns := rfl
@[simp] theorem recordUnderrun_xferErr (c : Cause) (s : State) : (recordUnderrun c s).xferErr = s.xferErr := rfl
@[simp] theorem recordUnderrun_out (c : Cause) (s : State) : (recordUnderrun c s).out = s.out := rfl
@[simp] theorem recordUnderrun_resp (c : Cause) (s : State) : (recordUnderrun c s).resp = s.resp := rfl
@[simp] theorem recordUnderrun_input (c : Cause) (s : State) : (recordUnderrun c s).input = s.input := rfl

/-! ### `issueFrame` -/

@[simp] theorem issueFrame_params (c : Code) (s : State) : (issueFrame c s).params = s.params := rfl
@[simp] theorem issueFrame_mem (c : Code) (s : State) : (issueFrame c s).mem = s.mem := rfl
@[simp] theorem issueFrame_widx (c : Code) (s : State) : (issueFrame c s).widx = s.widx := rfl
@[simp] theorem issueFrame_ridx (c : Code) (s : State) : (issueFrame c s).ridx = s.ridx := rfl
@[simp] theorem issueFrame_blkpos (c : Code) (s : State) : (issueFrame c s).blkpos = s.blkpos := rfl
@[simp] theorem issueFrame_abort (c : Code) (s : State) : (issueFrame c s).abort = s.abort := rfl
@[simp] theorem issueFrame_armed (c : Code) (s : State) : (issueFrame c s).armed = s.armed := rfl
@[simp] theorem issueFrame_time (c : Code) (s : State) : (issueFrame c s).time = s.time := rfl
@[simp] theorem issueFrame_alarm (c : Code) (s : State) : (issueFrame c s).alarm = s.alarm := rfl
@[simp] theorem issueFrame_tpend (c : Code) (s : State) : (issueFrame c s).tpend = s.tpend := rfl
@[simp] theorem issueFrame_busy (c : Code) (s : State) : (issueFrame c s).busy = true := rfl
@[simp] theorem issueFrame_frame (c : Code) (s : State) : (issueFrame c s).frame = frameOf s.params c := rfl
@[simp] theorem issueFrame_fpos (c : Code) (s : State) : (issueFrame c s).fpos = 0#2 := rfl
@[simp] theorem issueFrame_rie (c : Code) (s : State) : (issueFrame c s).rie = s.rie := rfl
@[simp] theorem issueFrame_cause (c : Code) (s : State) : (issueFrame c s).cause = s.cause := rfl
@[simp] theorem issueFrame_samples (c : Code) (s : State) : (issueFrame c s).samples = s.samples := rfl
@[simp] theorem issueFrame_updates (c : Code) (s : State) : (issueFrame c s).updates = s.updates + 1#32 := rfl
@[simp] theorem issueFrame_underruns (c : Code) (s : State) : (issueFrame c s).underruns = s.underruns := rfl
@[simp] theorem issueFrame_overruns (c : Code) (s : State) : (issueFrame c s).overruns = s.overruns := rfl
@[simp] theorem issueFrame_xferErr (c : Code) (s : State) : (issueFrame c s).xferErr = s.xferErr := rfl
@[simp] theorem issueFrame_out (c : Code) (s : State) : (issueFrame c s).out = s.out := rfl
@[simp] theorem issueFrame_resp (c : Code) (s : State) : (issueFrame c s).resp = s.resp := rfl
@[simp] theorem issueFrame_input (c : Code) (s : State) : (issueFrame c s).input = s.input := rfl

/-! ### `rearm` -/

@[simp] theorem rearm_params (s : State) : (rearm s).params = s.params := rfl
@[simp] theorem rearm_mem (s : State) : (rearm s).mem = s.mem := rfl
@[simp] theorem rearm_widx (s : State) : (rearm s).widx = s.widx := rfl
@[simp] theorem rearm_ridx (s : State) : (rearm s).ridx = s.ridx := rfl
@[simp] theorem rearm_blkpos (s : State) : (rearm s).blkpos = s.blkpos := rfl
@[simp] theorem rearm_abort (s : State) : (rearm s).abort = s.abort := rfl
@[simp] theorem rearm_armed (s : State) : (rearm s).armed = s.armed := rfl
@[simp] theorem rearm_time (s : State) : (rearm s).time = s.time := rfl
@[simp] theorem rearm_alarm (s : State) : (rearm s).alarm = s.alarm + s.params.periodWord := rfl
@[simp] theorem rearm_tpend (s : State) : (rearm s).tpend = s.tpend := rfl
@[simp] theorem rearm_busy (s : State) : (rearm s).busy = s.busy := rfl
@[simp] theorem rearm_frame (s : State) : (rearm s).frame = s.frame := rfl
@[simp] theorem rearm_fpos (s : State) : (rearm s).fpos = s.fpos := rfl
@[simp] theorem rearm_rie (s : State) : (rearm s).rie = s.rie := rfl
@[simp] theorem rearm_cause (s : State) : (rearm s).cause = s.cause := rfl
@[simp] theorem rearm_samples (s : State) : (rearm s).samples = s.samples := rfl
@[simp] theorem rearm_updates (s : State) : (rearm s).updates = s.updates := rfl
@[simp] theorem rearm_underruns (s : State) : (rearm s).underruns = s.underruns := rfl
@[simp] theorem rearm_overruns (s : State) : (rearm s).overruns = s.overruns := rfl
@[simp] theorem rearm_xferErr (s : State) : (rearm s).xferErr = s.xferErr := rfl
@[simp] theorem rearm_out (s : State) : (rearm s).out = s.out := rfl
@[simp] theorem rearm_resp (s : State) : (rearm s).resp = s.resp := rfl
@[simp] theorem rearm_input (s : State) : (rearm s).input = s.input := rfl

/-! ### `emit` -/

@[simp] theorem emit_params (b : Byte) (s : State) : (emit b s).params = s.params := rfl
@[simp] theorem emit_mem (b : Byte) (s : State) : (emit b s).mem = s.mem := rfl
@[simp] theorem emit_widx (b : Byte) (s : State) : (emit b s).widx = s.widx := rfl
@[simp] theorem emit_ridx (b : Byte) (s : State) : (emit b s).ridx = s.ridx := rfl
@[simp] theorem emit_blkpos (b : Byte) (s : State) : (emit b s).blkpos = s.blkpos := rfl
@[simp] theorem emit_abort (b : Byte) (s : State) : (emit b s).abort = s.abort := rfl
@[simp] theorem emit_armed (b : Byte) (s : State) : (emit b s).armed = s.armed := rfl
@[simp] theorem emit_time (b : Byte) (s : State) : (emit b s).time = s.time := rfl
@[simp] theorem emit_alarm (b : Byte) (s : State) : (emit b s).alarm = s.alarm := rfl
@[simp] theorem emit_tpend (b : Byte) (s : State) : (emit b s).tpend = s.tpend := rfl
@[simp] theorem emit_busy (b : Byte) (s : State) : (emit b s).busy = s.busy := rfl
@[simp] theorem emit_frame (b : Byte) (s : State) : (emit b s).frame = s.frame := rfl
@[simp] theorem emit_fpos (b : Byte) (s : State) : (emit b s).fpos = s.fpos := rfl
@[simp] theorem emit_rie (b : Byte) (s : State) : (emit b s).rie = s.rie := rfl
@[simp] theorem emit_cause (b : Byte) (s : State) : (emit b s).cause = s.cause := rfl
@[simp] theorem emit_samples (b : Byte) (s : State) : (emit b s).samples = s.samples := rfl
@[simp] theorem emit_updates (b : Byte) (s : State) : (emit b s).updates = s.updates := rfl
@[simp] theorem emit_underruns (b : Byte) (s : State) : (emit b s).underruns = s.underruns := rfl
@[simp] theorem emit_overruns (b : Byte) (s : State) : (emit b s).overruns = s.overruns := rfl
@[simp] theorem emit_xferErr (b : Byte) (s : State) : (emit b s).xferErr = s.xferErr := rfl
@[simp] theorem emit_out (b : Byte) (s : State) : (emit b s).out = s.out ++ [b] := rfl
@[simp] theorem emit_resp (b : Byte) (s : State) : (emit b s).resp = s.resp := rfl
@[simp] theorem emit_input (b : Byte) (s : State) : (emit b s).input = s.input := rfl

/-! ### `endTransfer` -/

@[simp] theorem endTransfer_params (s : State) : (endTransfer s).params = s.params := rfl
@[simp] theorem endTransfer_mem (s : State) : (endTransfer s).mem = s.mem := rfl
@[simp] theorem endTransfer_widx (s : State) : (endTransfer s).widx = s.widx := rfl
@[simp] theorem endTransfer_ridx (s : State) : (endTransfer s).ridx = s.ridx := rfl
@[simp] theorem endTransfer_blkpos (s : State) : (endTransfer s).blkpos = s.blkpos := rfl
@[simp] theorem endTransfer_abort (s : State) : (endTransfer s).abort = s.abort := rfl
@[simp] theorem endTransfer_armed (s : State) : (endTransfer s).armed = s.armed := rfl
@[simp] theorem endTransfer_time (s : State) : (endTransfer s).time = s.time := rfl
@[simp] theorem endTransfer_alarm (s : State) : (endTransfer s).alarm = s.alarm := rfl
@[simp] theorem endTransfer_tpend (s : State) : (endTransfer s).tpend = s.tpend := rfl
@[simp] theorem endTransfer_busy (s : State) : (endTransfer s).busy = false := rfl
@[simp] theorem endTransfer_frame (s : State) : (endTransfer s).frame = s.frame := rfl
@[simp] theorem endTransfer_fpos (s : State) : (endTransfer s).fpos = 0#2 := rfl
@[simp] theorem endTransfer_rie (s : State) : (endTransfer s).rie = s.rie := rfl
@[simp] theorem endTransfer_cause (s : State) : (endTransfer s).cause = s.cause := rfl
@[simp] theorem endTransfer_samples (s : State) : (endTransfer s).samples = s.samples := rfl
@[simp] theorem endTransfer_updates (s : State) : (endTransfer s).updates = s.updates := rfl
@[simp] theorem endTransfer_underruns (s : State) : (endTransfer s).underruns = s.underruns := rfl
@[simp] theorem endTransfer_overruns (s : State) : (endTransfer s).overruns = s.overruns := rfl
@[simp] theorem endTransfer_xferErr (s : State) : (endTransfer s).xferErr = s.xferErr := rfl
@[simp] theorem endTransfer_out (s : State) : (endTransfer s).out = s.out := rfl
@[simp] theorem endTransfer_resp (s : State) : (endTransfer s).resp = s.resp := rfl
@[simp] theorem endTransfer_input (s : State) : (endTransfer s).input = s.input := rfl

/-! ### `advanceByte` -/

@[simp] theorem advanceByte_params (s : State) : (advanceByte s).params = s.params := rfl
@[simp] theorem advanceByte_mem (s : State) : (advanceByte s).mem = s.mem := rfl
@[simp] theorem advanceByte_widx (s : State) : (advanceByte s).widx = s.widx := rfl
@[simp] theorem advanceByte_ridx (s : State) : (advanceByte s).ridx = s.ridx := rfl
@[simp] theorem advanceByte_blkpos (s : State) : (advanceByte s).blkpos = s.blkpos := rfl
@[simp] theorem advanceByte_abort (s : State) : (advanceByte s).abort = s.abort := rfl
@[simp] theorem advanceByte_armed (s : State) : (advanceByte s).armed = s.armed := rfl
@[simp] theorem advanceByte_time (s : State) : (advanceByte s).time = s.time := rfl
@[simp] theorem advanceByte_alarm (s : State) : (advanceByte s).alarm = s.alarm := rfl
@[simp] theorem advanceByte_tpend (s : State) : (advanceByte s).tpend = s.tpend := rfl
@[simp] theorem advanceByte_busy (s : State) : (advanceByte s).busy = s.busy := rfl
@[simp] theorem advanceByte_frame (s : State) : (advanceByte s).frame = s.frame := rfl
@[simp] theorem advanceByte_fpos (s : State) : (advanceByte s).fpos = s.fpos + 1#2 := rfl
@[simp] theorem advanceByte_rie (s : State) : (advanceByte s).rie = s.rie := rfl
@[simp] theorem advanceByte_cause (s : State) : (advanceByte s).cause = s.cause := rfl
@[simp] theorem advanceByte_samples (s : State) : (advanceByte s).samples = s.samples := rfl
@[simp] theorem advanceByte_updates (s : State) : (advanceByte s).updates = s.updates := rfl
@[simp] theorem advanceByte_underruns (s : State) : (advanceByte s).underruns = s.underruns := rfl
@[simp] theorem advanceByte_overruns (s : State) : (advanceByte s).overruns = s.overruns := rfl
@[simp] theorem advanceByte_xferErr (s : State) : (advanceByte s).xferErr = s.xferErr := rfl
@[simp] theorem advanceByte_out (s : State) : (advanceByte s).out = s.out := rfl
@[simp] theorem advanceByte_resp (s : State) : (advanceByte s).resp = s.resp := rfl
@[simp] theorem advanceByte_input (s : State) : (advanceByte s).input = s.input := rfl

/-! ### `countXferError` -/

@[simp] theorem countXferError_params (s : State) : (countXferError s).params = s.params := rfl
@[simp] theorem countXferError_mem (s : State) : (countXferError s).mem = s.mem := rfl
@[simp] theorem countXferError_widx (s : State) : (countXferError s).widx = s.widx := rfl
@[simp] theorem countXferError_ridx (s : State) : (countXferError s).ridx = s.ridx := rfl
@[simp] theorem countXferError_blkpos (s : State) : (countXferError s).blkpos = s.blkpos := rfl
@[simp] theorem countXferError_abort (s : State) : (countXferError s).abort = s.abort := rfl
@[simp] theorem countXferError_armed (s : State) : (countXferError s).armed = s.armed := rfl
@[simp] theorem countXferError_time (s : State) : (countXferError s).time = s.time := rfl
@[simp] theorem countXferError_alarm (s : State) : (countXferError s).alarm = s.alarm := rfl
@[simp] theorem countXferError_tpend (s : State) : (countXferError s).tpend = s.tpend := rfl
@[simp] theorem countXferError_busy (s : State) : (countXferError s).busy = s.busy := rfl
@[simp] theorem countXferError_frame (s : State) : (countXferError s).frame = s.frame := rfl
@[simp] theorem countXferError_fpos (s : State) : (countXferError s).fpos = s.fpos := rfl
@[simp] theorem countXferError_rie (s : State) : (countXferError s).rie = s.rie := rfl
@[simp] theorem countXferError_cause (s : State) : (countXferError s).cause = .xferFail := rfl
@[simp] theorem countXferError_samples (s : State) : (countXferError s).samples = s.samples := rfl
@[simp] theorem countXferError_updates (s : State) : (countXferError s).updates = s.updates := rfl
@[simp] theorem countXferError_underruns (s : State) : (countXferError s).underruns = s.underruns := rfl
@[simp] theorem countXferError_overruns (s : State) : (countXferError s).overruns = s.overruns := rfl
@[simp] theorem countXferError_xferErr (s : State) : (countXferError s).xferErr = s.xferErr + 1#32 := rfl
@[simp] theorem countXferError_out (s : State) : (countXferError s).out = s.out := rfl
@[simp] theorem countXferError_resp (s : State) : (countXferError s).resp = s.resp := rfl
@[simp] theorem countXferError_input (s : State) : (countXferError s).input = s.input := rfl

/-! ### `setRie` -/

@[simp] theorem setRie_params (v : Bool) (s : State) : (setRie v s).params = s.params := rfl
@[simp] theorem setRie_mem (v : Bool) (s : State) : (setRie v s).mem = s.mem := rfl
@[simp] theorem setRie_widx (v : Bool) (s : State) : (setRie v s).widx = s.widx := rfl
@[simp] theorem setRie_ridx (v : Bool) (s : State) : (setRie v s).ridx = s.ridx := rfl
@[simp] theorem setRie_blkpos (v : Bool) (s : State) : (setRie v s).blkpos = s.blkpos := rfl
@[simp] theorem setRie_abort (v : Bool) (s : State) : (setRie v s).abort = s.abort := rfl
@[simp] theorem setRie_armed (v : Bool) (s : State) : (setRie v s).armed = s.armed := rfl
@[simp] theorem setRie_time (v : Bool) (s : State) : (setRie v s).time = s.time := rfl
@[simp] theorem setRie_alarm (v : Bool) (s : State) : (setRie v s).alarm = s.alarm := rfl
@[simp] theorem setRie_tpend (v : Bool) (s : State) : (setRie v s).tpend = s.tpend := rfl
@[simp] theorem setRie_busy (v : Bool) (s : State) : (setRie v s).busy = s.busy := rfl
@[simp] theorem setRie_frame (v : Bool) (s : State) : (setRie v s).frame = s.frame := rfl
@[simp] theorem setRie_fpos (v : Bool) (s : State) : (setRie v s).fpos = s.fpos := rfl
@[simp] theorem setRie_rie (v : Bool) (s : State) : (setRie v s).rie = v := rfl
@[simp] theorem setRie_cause (v : Bool) (s : State) : (setRie v s).cause = s.cause := rfl
@[simp] theorem setRie_samples (v : Bool) (s : State) : (setRie v s).samples = s.samples := rfl
@[simp] theorem setRie_updates (v : Bool) (s : State) : (setRie v s).updates = s.updates := rfl
@[simp] theorem setRie_underruns (v : Bool) (s : State) : (setRie v s).underruns = s.underruns := rfl
@[simp] theorem setRie_overruns (v : Bool) (s : State) : (setRie v s).overruns = s.overruns := rfl
@[simp] theorem setRie_xferErr (v : Bool) (s : State) : (setRie v s).xferErr = s.xferErr := rfl
@[simp] theorem setRie_out (v : Bool) (s : State) : (setRie v s).out = s.out := rfl
@[simp] theorem setRie_resp (v : Bool) (s : State) : (setRie v s).resp = s.resp := rfl
@[simp] theorem setRie_input (v : Bool) (s : State) : (setRie v s).input = s.input := rfl

/-! ### `syncBlock` -/

@[simp] theorem syncBlock_params (s : State) : (syncBlock s).params = s.params := rfl
@[simp] theorem syncBlock_mem (s : State) : (syncBlock s).mem = s.mem := rfl
@[simp] theorem syncBlock_widx (s : State) : (syncBlock s).widx = s.widx := rfl
@[simp] theorem syncBlock_ridx (s : State) : (syncBlock s).ridx = s.ridx := rfl
@[simp] theorem syncBlock_blkpos (s : State) : (syncBlock s).blkpos = 0#16 := rfl
@[simp] theorem syncBlock_abort (s : State) : (syncBlock s).abort = false := rfl
@[simp] theorem syncBlock_armed (s : State) : (syncBlock s).armed = s.armed := rfl
@[simp] theorem syncBlock_time (s : State) : (syncBlock s).time = s.time := rfl
@[simp] theorem syncBlock_alarm (s : State) : (syncBlock s).alarm = s.alarm := rfl
@[simp] theorem syncBlock_tpend (s : State) : (syncBlock s).tpend = s.tpend := rfl
@[simp] theorem syncBlock_busy (s : State) : (syncBlock s).busy = s.busy := rfl
@[simp] theorem syncBlock_frame (s : State) : (syncBlock s).frame = s.frame := rfl
@[simp] theorem syncBlock_fpos (s : State) : (syncBlock s).fpos = s.fpos := rfl
@[simp] theorem syncBlock_rie (s : State) : (syncBlock s).rie = s.rie := rfl
@[simp] theorem syncBlock_cause (s : State) : (syncBlock s).cause = s.cause := rfl
@[simp] theorem syncBlock_samples (s : State) : (syncBlock s).samples = s.samples := rfl
@[simp] theorem syncBlock_updates (s : State) : (syncBlock s).updates = s.updates := rfl
@[simp] theorem syncBlock_underruns (s : State) : (syncBlock s).underruns = s.underruns := rfl
@[simp] theorem syncBlock_overruns (s : State) : (syncBlock s).overruns = s.overruns := rfl
@[simp] theorem syncBlock_xferErr (s : State) : (syncBlock s).xferErr = s.xferErr := rfl
@[simp] theorem syncBlock_out (s : State) : (syncBlock s).out = s.out := rfl
@[simp] theorem syncBlock_resp (s : State) : (syncBlock s).resp = s.resp := rfl
@[simp] theorem syncBlock_input (s : State) : (syncBlock s).input = s.input := rfl

/-! ### `resetBlock` -/

@[simp] theorem resetBlock_params (s : State) : (resetBlock s).params = s.params := rfl
@[simp] theorem resetBlock_mem (s : State) : (resetBlock s).mem = [] := rfl
@[simp] theorem resetBlock_widx (s : State) : (resetBlock s).widx = 0#16 := rfl
@[simp] theorem resetBlock_ridx (s : State) : (resetBlock s).ridx = 0#16 := rfl
@[simp] theorem resetBlock_blkpos (s : State) : (resetBlock s).blkpos = 0#16 := rfl
@[simp] theorem resetBlock_abort (s : State) : (resetBlock s).abort = false := rfl
@[simp] theorem resetBlock_armed (s : State) : (resetBlock s).armed = false := rfl
@[simp] theorem resetBlock_time (s : State) : (resetBlock s).time = 0#32 := rfl
@[simp] theorem resetBlock_alarm (s : State) : (resetBlock s).alarm = 0#32 := rfl
@[simp] theorem resetBlock_tpend (s : State) : (resetBlock s).tpend = false := rfl
@[simp] theorem resetBlock_busy (s : State) : (resetBlock s).busy = false := rfl
@[simp] theorem resetBlock_frame (s : State) : (resetBlock s).frame = { b0 := 0x00#8, b1 := 0x00#8, b2 := 0x00#8 } := rfl
@[simp] theorem resetBlock_fpos (s : State) : (resetBlock s).fpos = 0#2 := rfl
@[simp] theorem resetBlock_rie (s : State) : (resetBlock s).rie = false := rfl
@[simp] theorem resetBlock_cause (s : State) : (resetBlock s).cause = .none := rfl
@[simp] theorem resetBlock_samples (s : State) : (resetBlock s).samples = 0#32 := rfl
@[simp] theorem resetBlock_updates (s : State) : (resetBlock s).updates = 0#32 := rfl
@[simp] theorem resetBlock_underruns (s : State) : (resetBlock s).underruns = 0#32 := rfl
@[simp] theorem resetBlock_overruns (s : State) : (resetBlock s).overruns = 0#32 := rfl
@[simp] theorem resetBlock_xferErr (s : State) : (resetBlock s).xferErr = 0#32 := rfl
@[simp] theorem resetBlock_out (s : State) : (resetBlock s).out = s.out := rfl
@[simp] theorem resetBlock_resp (s : State) : (resetBlock s).resp = s.resp := rfl
@[simp] theorem resetBlock_input (s : State) : (resetBlock s).input = s.input := rfl

/-! ### `advanceBlock` -/

@[simp] theorem advanceBlock_params (s : State) : (advanceBlock s).params = s.params := by unfold advanceBlock; split <;> rfl
@[simp] theorem advanceBlock_mem (s : State) : (advanceBlock s).mem = s.mem := by unfold advanceBlock; split <;> rfl
@[simp] theorem advanceBlock_widx (s : State) : (advanceBlock s).widx = s.widx := by unfold advanceBlock; split <;> rfl
@[simp] theorem advanceBlock_ridx (s : State) : (advanceBlock s).ridx = s.ridx := by unfold advanceBlock; split <;> rfl
@[simp] theorem advanceBlock_blkpos (s : State) : (advanceBlock s).blkpos = if (s.blkpos + 1#16).toNat = s.params.blockSize then 0#16 else s.blkpos + 1#16 := by unfold advanceBlock; split <;> rfl
@[simp] theorem advanceBlock_abort (s : State) : (advanceBlock s).abort = if (s.blkpos + 1#16).toNat = s.params.blockSize then false else s.abort := by unfold advanceBlock; split <;> rfl
@[simp] theorem advanceBlock_armed (s : State) : (advanceBlock s).armed = s.armed := by unfold advanceBlock; split <;> rfl
@[simp] theorem advanceBlock_time (s : State) : (advanceBlock s).time = s.time := by unfold advanceBlock; split <;> rfl
@[simp] theorem advanceBlock_alarm (s : State) : (advanceBlock s).alarm = s.alarm := by unfold advanceBlock; split <;> rfl
@[simp] theorem advanceBlock_tpend (s : State) : (advanceBlock s).tpend = s.tpend := by unfold advanceBlock; split <;> rfl
@[simp] theorem advanceBlock_busy (s : State) : (advanceBlock s).busy = s.busy := by unfold advanceBlock; split <;> rfl
@[simp] theorem advanceBlock_frame (s : State) : (advanceBlock s).frame = s.frame := by unfold advanceBlock; split <;> rfl
@[simp] theorem advanceBlock_fpos (s : State) : (advanceBlock s).fpos = s.fpos := by unfold advanceBlock; split <;> rfl
@[simp] theorem advanceBlock_rie (s : State) : (advanceBlock s).rie = s.rie := by unfold advanceBlock; split <;> rfl
@[simp] theorem advanceBlock_cause (s : State) : (advanceBlock s).cause = s.cause := by unfold advanceBlock; split <;> rfl
@[simp] theorem advanceBlock_samples (s : State) : (advanceBlock s).samples = s.samples := by unfold advanceBlock; split <;> rfl
@[simp] theorem advanceBlock_updates (s : State) : (advanceBlock s).updates = s.updates := by unfold advanceBlock; split <;> rfl
@[simp] theorem advanceBlock_underruns (s : State) : (advanceBlock s).underruns = s.underruns := by unfold advanceBlock; split <;> rfl
@[simp] theorem advanceBlock_overruns (s : State) : (advanceBlock s).overruns = s.overruns := by unfold advanceBlock; split <;> rfl
@[simp] theorem advanceBlock_xferErr (s : State) : (advanceBlock s).xferErr = s.xferErr := by unfold advanceBlock; split <;> rfl
@[simp] theorem advanceBlock_out (s : State) : (advanceBlock s).out = s.out := by unfold advanceBlock; split <;> rfl
@[simp] theorem advanceBlock_resp (s : State) : (advanceBlock s).resp = s.resp := by unfold advanceBlock; split <;> rfl
@[simp] theorem advanceBlock_input (s : State) : (advanceBlock s).input = s.input := by unfold advanceBlock; split <;> rfl

/-! ### `armTimer` -/

@[simp] theorem armTimer_params (s : State) : (armTimer s).params = s.params := by unfold armTimer; split <;> rfl
@[simp] theorem armTimer_mem (s : State) : (armTimer s).mem = s.mem := by unfold armTimer; split <;> rfl
@[simp] theorem armTimer_widx (s : State) : (armTimer s).widx = s.widx := by unfold armTimer; split <;> rfl
@[simp] theorem armTimer_ridx (s : State) : (armTimer s).ridx = s.ridx := by unfold armTimer; split <;> rfl
@[simp] theorem armTimer_blkpos (s : State) : (armTimer s).blkpos = s.blkpos := by unfold armTimer; split <;> rfl
@[simp] theorem armTimer_abort (s : State) : (armTimer s).abort = s.abort := by unfold armTimer; split <;> rfl
@[simp] theorem armTimer_armed (s : State) : (armTimer s).armed = true := by unfold armTimer; split <;> simp_all
@[simp] theorem armTimer_time (s : State) : (armTimer s).time = s.time := by unfold armTimer; split <;> rfl
@[simp] theorem armTimer_alarm (s : State) : (armTimer s).alarm = if s.armed then s.alarm else s.time + s.params.periodWord := by unfold armTimer; split <;> rfl
@[simp] theorem armTimer_tpend (s : State) : (armTimer s).tpend = s.tpend := by unfold armTimer; split <;> rfl
@[simp] theorem armTimer_busy (s : State) : (armTimer s).busy = s.busy := by unfold armTimer; split <;> rfl
@[simp] theorem armTimer_frame (s : State) : (armTimer s).frame = s.frame := by unfold armTimer; split <;> rfl
@[simp] theorem armTimer_fpos (s : State) : (armTimer s).fpos = s.fpos := by unfold armTimer; split <;> rfl
@[simp] theorem armTimer_rie (s : State) : (armTimer s).rie = s.rie := by unfold armTimer; split <;> rfl
@[simp] theorem armTimer_cause (s : State) : (armTimer s).cause = s.cause := by unfold armTimer; split <;> rfl
@[simp] theorem armTimer_samples (s : State) : (armTimer s).samples = s.samples := by unfold armTimer; split <;> rfl
@[simp] theorem armTimer_updates (s : State) : (armTimer s).updates = s.updates := by unfold armTimer; split <;> rfl
@[simp] theorem armTimer_underruns (s : State) : (armTimer s).underruns = s.underruns := by unfold armTimer; split <;> rfl
@[simp] theorem armTimer_overruns (s : State) : (armTimer s).overruns = s.overruns := by unfold armTimer; split <;> rfl
@[simp] theorem armTimer_xferErr (s : State) : (armTimer s).xferErr = s.xferErr := by unfold armTimer; split <;> rfl
@[simp] theorem armTimer_out (s : State) : (armTimer s).out = s.out := by unfold armTimer; split <;> rfl
@[simp] theorem armTimer_resp (s : State) : (armTimer s).resp = s.resp := by unfold armTimer; split <;> rfl
@[simp] theorem armTimer_input (s : State) : (armTimer s).input = s.input := by unfold armTimer; split <;> rfl

/-! ### `State.powerOn` -/

@[simp] theorem powerOn_params (p : Params) : (State.powerOn p).params = p := rfl
@[simp] theorem powerOn_mem (p : Params) : (State.powerOn p).mem = [] := rfl
@[simp] theorem powerOn_widx (p : Params) : (State.powerOn p).widx = 0#16 := rfl
@[simp] theorem powerOn_ridx (p : Params) : (State.powerOn p).ridx = 0#16 := rfl
@[simp] theorem powerOn_blkpos (p : Params) : (State.powerOn p).blkpos = 0#16 := rfl
@[simp] theorem powerOn_abort (p : Params) : (State.powerOn p).abort = false := rfl
@[simp] theorem powerOn_armed (p : Params) : (State.powerOn p).armed = false := rfl
@[simp] theorem powerOn_time (p : Params) : (State.powerOn p).time = 0#32 := rfl
@[simp] theorem powerOn_alarm (p : Params) : (State.powerOn p).alarm = 0#32 := rfl
@[simp] theorem powerOn_tpend (p : Params) : (State.powerOn p).tpend = false := rfl
@[simp] theorem powerOn_busy (p : Params) : (State.powerOn p).busy = false := rfl
@[simp] theorem powerOn_frame (p : Params) : (State.powerOn p).frame = { b0 := 0x00#8, b1 := 0x00#8, b2 := 0x00#8 } := rfl
@[simp] theorem powerOn_fpos (p : Params) : (State.powerOn p).fpos = 0#2 := rfl
@[simp] theorem powerOn_rie (p : Params) : (State.powerOn p).rie = false := rfl
@[simp] theorem powerOn_cause (p : Params) : (State.powerOn p).cause = .none := rfl
@[simp] theorem powerOn_samples (p : Params) : (State.powerOn p).samples = 0#32 := rfl
@[simp] theorem powerOn_updates (p : Params) : (State.powerOn p).updates = 0#32 := rfl
@[simp] theorem powerOn_underruns (p : Params) : (State.powerOn p).underruns = 0#32 := rfl
@[simp] theorem powerOn_overruns (p : Params) : (State.powerOn p).overruns = 0#32 := rfl
@[simp] theorem powerOn_xferErr (p : Params) : (State.powerOn p).xferErr = 0#32 := rfl
@[simp] theorem powerOn_out (p : Params) : (State.powerOn p).out = [] := rfl
@[simp] theorem powerOn_resp (p : Params) : (State.powerOn p).resp = .noData := rfl
@[simp] theorem powerOn_input (p : Params) : (State.powerOn p).input = [] := rfl

end Sys2Proof.Machine
end

