-- ==== Sys2Proof/Laws/Index.lean ====
section
/-! SUPPORT. Legal parameters, the mask as a remainder, and the fill levels as numbers. -/

namespace Sys2Proof

/-- The ranges of a legal parameter set, as numbers (R6). -/
theorem Params.legal_iff (p : Params) :
    p.legal = true ↔
      (1 ≤ p.log2n ∧ p.log2n ≤ 16) ∧ (1 ≤ p.blockSize ∧ p.blockSize ≤ p.cap - 1) ∧
      (1 ≤ p.lwm ∧ p.lwm ≤ p.cap - 1) ∧ (1 ≤ p.period ∧ p.period ≤ 2 ^ 32 - 1) ∧ p.pCmd ≤ 255 := by
  simp [Params.legal, Params.log2nOk, Params.blockSizeOk, Params.lwmOk, Params.periodOk, Params.pCmdOk, and_assoc]

theorem Params.cap_bounds {p : Params} (h : p.legal = true) : 2 ≤ p.cap ∧ p.cap ≤ 65536 := by
  obtain ⟨⟨h1, h2⟩, -⟩ := p.legal_iff.mp h
  constructor
  · calc 2 = 2 ^ 1 := rfl
      _ ≤ p.cap := Nat.pow_le_pow_right (by omega) h1
  · calc p.cap ≤ 2 ^ 16 := Nat.pow_le_pow_right (by omega) h2
      _ = 65536 := rfl

/-- `N` divides the number of values of an index field. -/
theorem Params.cap_dvd {p : Params} (h : p.legal = true) : p.cap ∣ 65536 := by
  obtain ⟨⟨-, h2⟩, -⟩ := p.legal_iff.mp h
  exact Nat.pow_dvd_pow 2 h2

theorem Params.mask_toNat {p : Params} (h : p.legal = true) : p.mask.toNat = p.cap - 1 := by
  have := Params.cap_bounds h
  simp only [Params.mask, BitVec.toNat_ofNat]
  omega

/-- Masking an index with `M` is reducing it modulo `N` (R10). -/
theorem Params.and_mask_toNat {p : Params} (h : p.legal = true) (x : Index) :
    (x &&& p.mask).toNat = x.toNat % p.cap := by
  rw [BitVec.toNat_and, Params.mask_toNat h, Params.cap, Nat.and_two_pow_sub_one_eq_mod]

/-- `(i + 1) & M` is `i + 1` modulo `N`. -/
theorem Params.nextIdx_toNat {p : Params} (h : p.legal = true) (i : Index) :
    (p.nextIdx i).toNat = (i.toNat + 1) % p.cap := by
  rw [Params.nextIdx, Params.and_mask_toNat h, BitVec.toNat_add]
  exact Nat.mod_mod_of_dvd _ (Params.cap_dvd h)

/-- `(a - b) & M` for indices below `N`: the distance from `b` forward to `a`. -/
theorem Params.diffIdx_toNat {p : Params} (h : p.legal = true) {a b : Index}
    (ha : a.toNat < p.cap) (hb : b.toNat < p.cap) :
    (p.diffIdx a b).toNat = if b.toNat ≤ a.toNat then a.toNat - b.toNat else a.toNat + p.cap - b.toNat := by
  have hc := Params.cap_bounds h
  rw [Params.diffIdx, Params.and_mask_toNat h, BitVec.toNat_sub]
  have hd : (2 ^ 16 - b.toNat + a.toNat) % 2 ^ 16 % p.cap = (2 ^ 16 - b.toNat + a.toNat) % p.cap :=
    Nat.mod_mod_of_dvd _ (Params.cap_dvd h)
  rw [hd]
  obtain ⟨k, hk⟩ := Params.cap_dvd h
  split
  · have : 2 ^ 16 - b.toNat + a.toNat = (a.toNat - b.toNat) + p.cap * k := by omega
    rw [this, Nat.add_mul_mod_self_left, Nat.mod_eq_of_lt (by omega)]
  · obtain ⟨j, rfl⟩ : ∃ j, k = j + 1 := ⟨k - 1, by cases k <;> omega⟩
    have : 2 ^ 16 - b.toNat + a.toNat = (a.toNat + p.cap - b.toNat) + p.cap * j := by
      rw [Nat.mul_add] at hk; omega
    rw [this, Nat.add_mul_mod_self_left, Nat.mod_eq_of_lt (by omega)]

/-- An index field below `N` is the index. -/
theorem Params.and_mask_of_lt {p : Params} (h : p.legal = true) {x : Index} (hx : x.toNat < p.cap) :
    x &&& p.mask = x := by
  apply BitVec.eq_of_toNat_eq
  rw [Params.and_mask_toNat h, Nat.mod_eq_of_lt hx]

/-- The successor of an index below `N`, by cases on the wrap. -/
theorem Params.succ_mod_cap {p : Params} {n : Nat} (hn : n < p.cap) :
    (n + 1) % p.cap = if n + 1 = p.cap then 0 else n + 1 := by
  split
  · next h => rw [h, Nat.mod_self]
  · exact Nat.mod_eq_of_lt (by omega)

namespace Machine

variable {s : State}

theorem State.wr_lt (h : s.params.legal = true) : s.wr.toNat < s.params.cap := by
  rw [State.wr, Params.and_mask_toNat h]
  exact Nat.mod_lt _ (by have := Params.cap_bounds h; omega)

theorem State.rd_lt (h : s.params.legal = true) : s.rd.toNat < s.params.cap := by
  rw [State.rd, Params.and_mask_toNat h]
  exact Nat.mod_lt _ (by have := Params.cap_bounds h; omega)

/-- `AVAIL` by cases on whether the write index has wrapped past the read index (R36). -/
theorem State.avail_eq (h : s.params.legal = true) :
    s.avail = if s.rd.toNat ≤ s.wr.toNat then s.wr.toNat - s.rd.toNat else s.wr.toNat + s.params.cap - s.rd.toNat :=
  Params.diffIdx_toNat h (State.wr_lt h) (State.rd_lt h)

theorem State.isEmpty_iff : s.isEmpty = true ↔ s.rd.toNat = s.wr.toNat := by
  simp [State.isEmpty, BitVec.toNat_inj]

theorem State.isFull_iff (h : s.params.legal = true) :
    s.isFull = true ↔ (s.wr.toNat + 1) % s.params.cap = s.rd.toNat := by
  rw [← Params.nextIdx_toNat h, BitVec.toNat_inj]
  simp [State.isFull]

end Machine

end Sys2Proof
end

