-- ==== Sys2Proof/Laws/Memory.lean ====
section
/-! SUPPORT. The ring storage: a read after a write, and the canonical form. -/

namespace Sys2Proof.Machine

@[simp] theorem Memory.read_nil (i : Nat) : Memory.read [] i = none := rfl

/-- A read after a write: the slot written gives the code written, every other slot what it gave before. -/
theorem Memory.read_write (m : Memory) (i j : Nat) (v : Code) :
    Memory.read (Memory.write m i v) j = if i = j then some v else Memory.read m j := by
  induction m with
  | nil => simp [Memory.write, Memory.read]
  | cons x m ih =>
    obtain ⟨k, c⟩ := x
    simp only [Memory.write]
    split
    · simp [Memory.read]
    · split
      · next h => subst h; by_cases h2 : i = j <;> simp [Memory.read, h2]
      · next h1 h2 =>
        simp only [Memory.read, ih]
        by_cases h3 : k = j
        · subst h3; simp [h2]
        · simp [h3]

/-- Every slot number listed after a write is the one written or was listed before. -/
theorem Memory.mem_write {m : Memory} {i : Nat} {v : Code} {x : Nat × Code} (h : x ∈ Memory.write m i v) :
    x = (i, v) ∨ x ∈ m := by
  induction m with
  | nil => simpa [Memory.write] using h
  | cons y m ih =>
    obtain ⟨k, c⟩ := y
    simp only [Memory.write] at h
    split at h
    · simpa using h
    · split at h
      · simp only [List.mem_cons] at h ⊢; tauto
      · simp only [List.mem_cons] at h ⊢
        rcases h with h | h
        · exact .inr (.inl h)
        · exact (ih h).imp_right .inr

/-- A write keeps the canonical form. -/
theorem Memory.wf_write {m : Memory} (h : m.wf) (i : Nat) (v : Code) : (Memory.write m i v).wf := by
  induction m with
  | nil => simp [Memory.write, Memory.wf]
  | cons y m ih =>
    obtain ⟨k, c⟩ := y
    simp only [Memory.wf, List.map_cons, List.pairwise_cons] at h
    obtain ⟨hk, hm⟩ := h
    simp only [Memory.write]
    split
    · next hlt =>
      simp only [Memory.wf, List.map_cons, List.pairwise_cons, List.mem_cons]
      refine ⟨?_, hk, hm⟩
      rintro a (rfl | ha)
      · exact hlt
      · exact lt_trans hlt (hk a ha)
    · split
      · next heq =>
        subst heq
        simp only [Memory.wf, List.map_cons, List.pairwise_cons]
        exact ⟨hk, hm⟩
      · next hge hne =>
        simp only [Memory.wf, List.map_cons, List.pairwise_cons]
        refine ⟨?_, ih hm⟩
        intro a ha
        obtain ⟨x, hx, rfl⟩ := List.mem_map.mp ha
        rcases Memory.mem_write hx with rfl | hx
        · simp only; omega
        · exact hk _ (List.mem_map_of_mem hx)

/-- Reset memory has the canonical form. -/
theorem Memory.wf_reset : State.reset.mem.wf := by decide

end Sys2Proof.Machine
end

