-- ==== Sys2Proof/Laws/Ops.lean ====
section
/-! SUPPORT. What each shared operation can do, said once: the cases of a push, of a dispatch, of a TICK, a TREQ and a
NACK, and what every operation leaves alone. Later proofs cite these and do not unfold the operations. -/

namespace Sys2Proof.Machine

variable {s t : State}

/-! ## Passing an outcome on -/

@[simp] theorem onNext_next (f : State → State) (s : State) : onNext f (.next s) = .next (f s) := rfl
@[simp] theorem onNext_fault (f : State → State) (r : Fault) : onNext f (.fault r) = .fault r := rfl
@[simp] theorem onNext_refused (f : State → State) (r : Refusal) : onNext f (.refused r) = .refused r := rfl

/-- `onNext f` answers a next state only through `f`. -/
theorem onNext_eq_next {f : State → State} {o : Host.Outcome State Fault Refusal} (h : onNext f o = .next t) :
    ∃ u, o = .next u ∧ t = f u := by
  cases o with
  | next u => exact ⟨u, rfl, by simpa using h.symm⟩
  | fault r => simp at h
  | refused r => simp at h

/-! ## Push -/

/-- The three cases of offering a code to the ring (R141). -/
theorem offerCode_cases (c : Code) (s : State) :
    (s.abort = true ∧ offerCode c s = dropCode .overrunAborted s) ∨
    (s.abort = false ∧ s.isFull = true ∧ offerCode c s = latchAbort (dropCode .overrunFull s)) ∨
    (s.abort = false ∧ s.isFull = false ∧ offerCode c s = storeCode c s) := by
  unfold offerCode
  cases s.abort <;> cases s.isFull <;> simp

/-- The three cases of `push_code`, with the block framing around them (R141). -/
theorem pushCode_cases (c : Code) (s : State) :
    (s.abort = true ∧ pushCode c s = advanceBlock (dropCode .overrunAborted (countSample s))) ∨
    (s.abort = false ∧ s.isFull = true ∧
      pushCode c s = advanceBlock (latchAbort (dropCode .overrunFull (countSample s)))) ∨
    (s.abort = false ∧ s.isFull = false ∧ pushCode c s = advanceBlock (storeCode c (countSample s))) := by
  rcases offerCode_cases c (countSample s) with ⟨h, e⟩ | ⟨h, h', e⟩ | ⟨h, h', e⟩
  · exact .inl ⟨h, by rw [pushCode, e]⟩
  · exact .inr (.inl ⟨h, h', by rw [pushCode, e]⟩)
  · exact .inr (.inr ⟨h, h', by rw [pushCode, e]⟩)

/-- A push operation performs `push_code` of the code it presents (R140, R145). -/
theorem exec_push_eq {i : Instr} {c : Code} (h : pushedCode i = some c) (s : State) :
    exec i s = .next (respond .noData (pushCode c s)) := by
  cases i <;> simp only [pushedCode, Option.some.injEq, reduceCtorEq] at h
  all_goals subst h; rfl

/-! ## TICK -/

/-- A TICK that answers a next state: no firing, or one of the three rows of the dispatch table (R182, R191). -/
theorem execTick_cases (h : exec .tick s = .next t) :
    ((advanceTime s).firesNow = false ∧ t = respond .noData (advanceTime s)) ∨
    ((advanceTime s).firesNow = true ∧ s.busy = true ∧
      t = respond .noData (rearm (recordUnderrun .underrunBusy (clearPending (setPending (advanceTime s)))))) ∨
    ((advanceTime s).firesNow = true ∧ s.busy = false ∧ s.isEmpty = true ∧
      t = respond .noData (rearm (recordUnderrun .underrunEmpty (clearPending (setPending (advanceTime s)))))) ∨
    ((advanceTime s).firesNow = true ∧ s.busy = false ∧ s.isEmpty = false ∧
      ∃ c, s.mem.read s.rd.toNat = some c ∧
        t = respond .noData (rearm (issueFrame c (advanceRead (clearPending (setPending (advanceTime s))))))) := by
  obtain ⟨u, hu, rfl⟩ := onNext_eq_next h
  cases hf : (advanceTime s).firesNow with
  | false =>
    simp only [tickTimer, hf, Bool.false_eq_true, if_false, Host.Outcome.next.injEq] at hu
    exact .inl ⟨rfl, by rw [hu]⟩
  | true =>
    simp only [tickTimer, hf, if_true] at hu
    obtain ⟨v, hv, rfl⟩ := onNext_eq_next hu
    have he : (clearPending (setPending (advanceTime s))).isEmpty = s.isEmpty := rfl
    have hr : (clearPending (setPending (advanceTime s))).rd = s.rd := rfl
    cases hb : s.busy with
    | true =>
      simp only [serve, clearPending_busy, setPending_busy, advanceTime_busy, hb, if_true,
        Host.Outcome.next.injEq] at hv
      exact .inr (.inl ⟨rfl, rfl, by rw [hv]⟩)
    | false =>
      simp only [serve, clearPending_busy, setPending_busy, advanceTime_busy, hb, Bool.false_eq_true, if_false,
        he, pop, hr, clearPending_mem, setPending_mem, advanceTime_mem] at hv
      cases hem : s.isEmpty with
      | true =>
        simp only [hem, if_true, Host.Outcome.next.injEq] at hv
        exact .inr (.inr (.inl ⟨rfl, rfl, rfl, by rw [hv]⟩))
      | false =>
        simp only [hem, Bool.false_eq_true, if_false] at hv
        cases hm : s.mem.read s.rd.toNat with
        | none => simp [hm] at hv
        | some c =>
          simp only [hm, Option.map_some, Host.Outcome.next.injEq] at hv
          exact .inr (.inr (.inr ⟨rfl, rfl, rfl, c, rfl, by rw [← hv]⟩))

/-- A TICK faults only by popping an unwritten slot (R54). -/
theorem execTick_fault {f : Fault} (h : exec .tick s = .fault f) :
    f = .unwrittenSlot ∧ s.busy = false ∧ s.isEmpty = false ∧ s.mem.read s.rd.toNat = none := by
  have he : (clearPending (setPending (advanceTime s))).isEmpty = s.isEmpty := rfl
  have hr : (clearPending (setPending (advanceTime s))).rd = s.rd := rfl
  change onNext _ (tickTimer s) = _ at h
  unfold tickTimer dispatch serve pop at h
  simp only [he, hr, clearPending_busy, setPending_busy, advanceTime_busy, clearPending_mem, setPending_mem,
    advanceTime_mem] at h
  cases hf : (advanceTime s).firesNow <;> cases hb : s.busy <;> cases hem : s.isEmpty <;>
    cases hm : s.mem.read s.rd.toNat <;> simp_all

/-- No TICK is refused. -/
theorem execTick_not_refused (r : Refusal) : exec .tick s ≠ .refused r := by
  intro h
  change onNext _ (tickTimer s) = _ at h
  unfold tickTimer dispatch serve at h
  revert h
  split
  · split
    · simp
    · split
      · simp
      · split <;> simp
  · simp

/-! ## TREQ -/

/-- `FRAME` has elements 0 to 2 (R32). -/
theorem Frame.at?_eq_none (f : Frame) (p : BitVec 2) : f.at? p = none ↔ p = 3#2 := by
  have : p = 0#2 ∨ p = 1#2 ∨ p = 2#2 ∨ p = 3#2 := by revert p; decide
  rcases this with rfl | rfl | rfl | rfl <;> simp [Frame.at?, Frame.bytes]

/-- A TREQ that answers a next state: nothing to send, a byte within the frame, or the frame's last byte (R222). -/
theorem execTreq_cases (h : exec .treq s = .next t) :
    (s.busy = false ∧ t = respond .noData s) ∨
    ∃ b, s.busy = true ∧ s.frame.at? s.fpos = some b ∧
      ((s.fpos = 2#2 ∧ t = respond .noData (endTransfer (emit b s))) ∨
       (s.fpos ≠ 2#2 ∧ t = respond .noData (advanceByte (emit b s)))) := by
  obtain ⟨u, hu, rfl⟩ := onNext_eq_next h
  have h3 : s.fpos + 1#2 = 3#2 ↔ s.fpos = 2#2 := by generalize s.fpos = p; revert p; decide
  cases hb : s.busy with
  | false =>
    simp only [sendByte, hb, Bool.false_eq_true, if_false, Host.Outcome.next.injEq] at hu
    exact .inl ⟨rfl, by rw [hu]⟩
  | true =>
    simp only [sendByte, hb, if_true, advanceByte_fpos, h3] at hu
    cases ha : s.frame.at? s.fpos with
    | none => simp [ha] at hu
    | some b =>
      refine .inr ⟨b, rfl, rfl, ?_⟩
      by_cases hp : s.fpos = 2#2
      · simp only [ha, if_pos hp, Host.Outcome.next.injEq] at hu
        exact .inl ⟨hp, by rw [hu]⟩
      · simp only [ha, if_neg hp, Host.Outcome.next.injEq] at hu
        exact .inr ⟨hp, by rw [hu]⟩

/-- A TREQ faults only with a frame in transfer and `FPOS = 3`. -/
theorem execTreq_fault {f : Fault} (h : exec .treq s = .fault f) :
    f = .frameIndex ∧ s.busy = true ∧ s.fpos = 3#2 := by
  change onNext _ (sendByte s) = _ at h
  have hat := Frame.at?_eq_none s.frame s.fpos
  unfold sendByte at h
  cases hb : s.busy with
  | false => simp [hb] at h
  | true =>
    cases ha : s.frame.at? s.fpos with
    | none => simp only [hb, ha, if_true, onNext_fault, Host.Outcome.fault.injEq] at h; exact ⟨h.symm, rfl, hat.mp ha⟩
    | some b => simp only [hb, ha, if_true] at h; revert h; split <;> simp

/-- No TREQ is refused. -/
theorem execTreq_not_refused (r : Refusal) : exec .treq s ≠ .refused r := by
  intro h
  change onNext _ (sendByte s) = _ at h
  unfold sendByte at h
  revert h
  split
  · split
    · split <;> simp
    · simp
  · simp

/-! ## All operations -/

/-- No operation changes the parameters or the pending inputs (R51; log entries 1 and 3). -/
theorem exec_params_input {i : Instr} (h : exec i s = .next t) : t.params = s.params ∧ t.input = s.input := by
  cases hp : pushedCode i with
  | some c =>
    rw [exec_push_eq hp, Host.Outcome.next.injEq] at h
    subst h
    rcases pushCode_cases c s with ⟨-, e⟩ | ⟨-, -, e⟩ | ⟨-, -, e⟩ <;> simp [e]
  | none =>
    cases i with
    | tick =>
      rcases execTick_cases h with ⟨-, rfl⟩ | ⟨-, -, rfl⟩ | ⟨-, -, -, rfl⟩ | ⟨-, -, -, c, -, rfl⟩ <;> simp
    | treq => rcases execTreq_cases h with ⟨-, rfl⟩ | ⟨b, -, -, ⟨-, rfl⟩ | ⟨-, rfl⟩⟩ <;> simp
    | nack =>
      cases h
      simp only [failTransfer]
      split <;> simp
    | wrCtrl w =>
      cases h
      simp only [writeCtrl]
      split <;> split <;> simp
    | push w => simp [pushedCode] at hp
    | pushf w => simp [pushedCode] at hp
    | _ => cases h; simp

/-- No operation is refused: every one has a meaning. -/
theorem exec_not_refused (i : Instr) (s : State) (r : Refusal) : exec i s ≠ .refused r := by
  cases i with
  | tick => exact execTick_not_refused r
  | treq => exact execTreq_not_refused r
  | _ => intro h; cases h

/-- Only TICK and TREQ can fault. -/
theorem exec_fault {i : Instr} {f : Fault} (h : exec i s = .fault f) : i = .tick ∨ i = .treq := by
  cases i with
  | tick => exact .inl rfl
  | treq => exact .inr rfl
  | _ => cases h

end Sys2Proof.Machine
end

