-- ==== Sys2Proof/Laws/PerInstr.lean ====
section
/-! SUPPORT. Facts about every operation as syntax, one lemma a constructor. -/

namespace Sys2Proof.Laws

/-- The encoding of the operation is an input its agent may present (R100, R112), and that agent is the one R102
names. -/
def EncodeWellFormed.Statement (i : Instr) : Prop := (encode i).wf = true ∧ (encode i).agent = some i.agent

/-- The shared case of the three host writes. -/
theorem hostWrite_wellFormed (i : Instr) (w : Opw) (ha : i.agent = .host) (hi : i.opw = w)
    (hw : Opw.cls w = 0b01#2) : EncodeWellFormed.Statement i := by
  have h : w.extractLsb' 10 2 = 1#2 := hw
  simp [EncodeWellFormed.Statement, encode, InputOp.wf, InputOp.notReserved, InputOp.dataOnlyOnWrites, InputOp.agent,
    Opw.cls, hi, h, ha]

theorem EncodeWellFormed.push (wdata : Word) : EncodeWellFormed.Statement (.push wdata) :=
  hostWrite_wellFormed _ 0x600#12 rfl rfl (by decide)
theorem EncodeWellFormed.pushf (wdata : Word) : EncodeWellFormed.Statement (.pushf wdata) :=
  hostWrite_wellFormed _ 0x604#12 rfl rfl (by decide)
theorem EncodeWellFormed.rdAvail : EncodeWellFormed.Statement .rdAvail := ⟨rfl, rfl⟩
theorem EncodeWellFormed.rdFree : EncodeWellFormed.Statement .rdFree := ⟨rfl, rfl⟩
theorem EncodeWellFormed.rdStatus : EncodeWellFormed.Statement .rdStatus := ⟨rfl, rfl⟩
theorem EncodeWellFormed.rdCtrl : EncodeWellFormed.Statement .rdCtrl := ⟨rfl, rfl⟩
theorem EncodeWellFormed.wrCtrl (wdata : Word) : EncodeWellFormed.Statement (.wrCtrl wdata) :=
  hostWrite_wellFormed _ 0x614#12 rfl rfl (by decide)
theorem EncodeWellFormed.rdSamples : EncodeWellFormed.Statement .rdSamples := ⟨rfl, rfl⟩
theorem EncodeWellFormed.rdUpdates : EncodeWellFormed.Statement .rdUpdates := ⟨rfl, rfl⟩
theorem EncodeWellFormed.rdUnderruns : EncodeWellFormed.Statement .rdUnderruns := ⟨rfl, rfl⟩
theorem EncodeWellFormed.rdOverruns : EncodeWellFormed.Statement .rdOverruns := ⟨rfl, rfl⟩
theorem EncodeWellFormed.rdXferErr : EncodeWellFormed.Statement .rdXferErr := ⟨rfl, rfl⟩
theorem EncodeWellFormed.rdTime : EncodeWellFormed.Statement .rdTime := ⟨rfl, rfl⟩
theorem EncodeWellFormed.rdAlarm : EncodeWellFormed.Statement .rdAlarm := ⟨rfl, rfl⟩
theorem EncodeWellFormed.rdParam0 : EncodeWellFormed.Statement .rdParam0 := ⟨rfl, rfl⟩
theorem EncodeWellFormed.rdParam1 : EncodeWellFormed.Statement .rdParam1 := ⟨rfl, rfl⟩
theorem EncodeWellFormed.rdPeriod : EncodeWellFormed.Statement .rdPeriod := ⟨rfl, rfl⟩
theorem EncodeWellFormed.tick : EncodeWellFormed.Statement .tick := ⟨rfl, rfl⟩
theorem EncodeWellFormed.treq : EncodeWellFormed.Statement .treq := ⟨rfl, rfl⟩
theorem EncodeWellFormed.nack : EncodeWellFormed.Statement .nack := ⟨rfl, rfl⟩
theorem EncodeWellFormed.reset : EncodeWellFormed.Statement .reset := ⟨rfl, rfl⟩

end Sys2Proof.Laws
end

