-- ==== Sys2Proof/Laws/Ring.lean ====
section
/-! SUPPORT. The live window of the ring: its slots, its ends, and how a store and a pop move them. -/

namespace Sys2Proof.Machine

variable {s t : State}

/-- In a state that meets the invariant, the index fields are the indices. -/
theorem State.Inv.wr_eq (h : s.Inv) : s.wr = s.widx := Params.and_mask_of_lt h.legal h.widx_lt

theorem State.Inv.rd_eq (h : s.Inv) : s.rd = s.ridx := Params.and_mask_of_lt h.legal h.ridx_lt

theorem State.avail_lt (h : s.params.legal = true) : s.avail < s.params.cap := by
  have h1 := State.wr_lt h
  have h2 := State.rd_lt h
  rw [State.avail_eq h]
  split <;> omega

theorem State.isFull_iff_avail (h : s.params.legal = true) : s.isFull = true ↔ s.avail = s.params.cap - 1 := by
  have h1 := State.wr_lt h
  have h2 := State.rd_lt h
  have h3 := Params.cap_bounds h
  rw [State.isFull_iff h, State.avail_eq h, Params.succ_mod_cap h1]
  split <;> split <;> omega

theorem State.isEmpty_iff_avail (h : s.params.legal = true) : s.isEmpty = true ↔ s.avail = 0 := by
  have h1 := State.wr_lt h
  have h2 := State.rd_lt h
  rw [State.isEmpty_iff, State.avail_eq h]
  split <;> omega

/-- Slot `j` of the window, by cases on the wrap (R55). -/
theorem State.slot_eq (h : s.params.legal = true) {j : Nat} (hj : j < s.params.cap) :
    s.slot j = if s.rd.toNat + j < s.params.cap then s.rd.toNat + j else s.rd.toNat + j - s.params.cap := by
  have h2 := State.rd_lt h
  have hd := Params.cap_dvd h
  rw [State.slot, Params.and_mask_toNat h, BitVec.toNat_add, BitVec.toNat_ofNat, Nat.mod_mod_of_dvd _ hd, Nat.add_mod,
    Nat.mod_mod_of_dvd _ hd, ← Nat.add_mod]
  split
  · exact Nat.mod_eq_of_lt ‹_›
  · rw [Nat.mod_eq_sub_mod (by omega), Nat.mod_eq_of_lt (by omega)]

/-- The slot after the window is the one the next push stores to. -/
theorem State.slot_avail (h : s.params.legal = true) : s.slot s.avail = s.wr.toNat := by
  have h1 := State.wr_lt h
  have h2 := State.rd_lt h
  rw [State.slot_eq h (State.avail_lt h), State.avail_eq h]
  split <;> split <;> omega

/-- The first slot of the window is the one the next pop reads. -/
theorem State.slot_zero (h : s.params.legal = true) : s.slot 0 = s.rd.toNat := by
  have h2 := State.rd_lt h
  rw [State.slot_eq h (by omega)]
  split <;> omega

/-- Different places of the window are different slots. -/
theorem State.slot_inj (h : s.params.legal = true) {j k : Nat} (hj : j < s.params.cap) (hk : k < s.params.cap)
    (e : s.slot j = s.slot k) : j = k := by
  have h2 := State.rd_lt h
  rw [State.slot_eq h hj, State.slot_eq h hk] at e
  split at e <;> split at e <;> omega

/-! ## Derived values of two states with the same indices -/

theorem State.avail_congr (e1 : t.params = s.params) (e2 : t.widx = s.widx) (e3 : t.ridx = s.ridx) :
    t.avail = s.avail := by
  simp only [State.avail, State.availIdx, State.wr, State.rd, e1, e2, e3]

theorem State.slot_congr (e1 : t.params = s.params) (e3 : t.ridx = s.ridx) (j : Nat) : t.slot j = s.slot j := by
  simp only [State.slot, State.rd, e1, e3]

/-! ## Advancing an index -/

/-- An advanced write index is its own masked value. -/
theorem State.wr_of_next (h : s.params.legal = true) (e1 : t.params = s.params)
    (e2 : t.widx = s.params.nextIdx s.wr) : t.wr = s.params.nextIdx s.wr := by
  have : t.params.legal = true := by rw [e1]; exact h
  rw [State.wr, e2]
  apply Params.and_mask_of_lt this
  rw [e1, Params.nextIdx_toNat h]
  exact Nat.mod_lt _ (by have := Params.cap_bounds h; omega)

/-- An advanced read index is its own masked value. -/
theorem State.rd_of_next (h : s.params.legal = true) (e1 : t.params = s.params)
    (e2 : t.ridx = s.params.nextIdx s.rd) : t.rd = s.params.nextIdx s.rd := by
  have : t.params.legal = true := by rw [e1]; exact h
  rw [State.rd, e2]
  apply Params.and_mask_of_lt this
  rw [e1, Params.nextIdx_toNat h]
  exact Nat.mod_lt _ (by have := Params.cap_bounds h; omega)

/-- After a pop the window starts one slot later. -/
theorem State.slot_of_pop (h : s.params.legal = true) (e1 : t.params = s.params)
    (e2 : t.ridx = s.params.nextIdx s.rd) {j : Nat} (hj : j + 1 < s.params.cap) : t.slot j = s.slot (j + 1) := by
  have h2 := State.rd_lt h
  have ht : t.params.legal = true := by rw [e1]; exact h
  rw [State.slot_eq h hj, State.slot_eq ht (by rw [e1]; omega), State.rd_of_next h e1 e2, e1, Params.nextIdx_toNat h,
    Params.succ_mod_cap h2]
  split <;> split <;> split <;> omega

end Sys2Proof.Machine
end

