-- ==== Sys2Proof/Tests/Slice0.lean ====
section
/-! SUPPORT. Tests and witnesses. Expected values are those of 95_test_vectors.md (named `L2.x`) or are read off the
rule cited; none is the model's own answer. -/

namespace Sys2Proof.Tests

open Sys2Proof.Machine

/-! ## Small states of configuration C8 (95_test_vectors.md §0) -/

/-- The reset state of C8. -/
def base : State := State.powerOn Config.c8

/-- Two codes in the ring, at a block boundary. -/
def stocked : State := { base with mem := [(0, 0x123#12), (1, 0x456#12)], widx := 2#16, samples := 2#32 }

/-- Armed, and the next TICK fires. -/
def due : State := { stocked with armed := true, time := 2#32, alarm := 3#32 }

/-- As `due`, with one code left and a frame that has its last byte to go. -/
def sending : State :=
  { due with ridx := 1#16, busy := true, frame := ⟨0x40#8, 0x12#8, 0x30#8⟩, fpos := 2#2, updates := 1#32 }

/-- As `due`, with the ring empty. -/
def dueEmpty : State := { due with ridx := 2#16 }

/-- A full ring: `WIDX = 7`, `RIDX = 0`. -/
def full : State :=
  { base with
    mem := [(0, 0#12), (1, 1#12), (2, 2#12), (3, 3#12), (4, 4#12), (5, 5#12), (6, 6#12)]
    widx := 7#16 }

/-- `WIDX` and `RIDX` set, nothing else. -/
def at_ (p : Params) (wi ri : Nat) : State :=
  { State.powerOn p with widx := BitVec.ofNat 16 wi, ridx := BitVec.ofNat 16 ri }

/-- The outcome is a next state that passes a check. -/
def ok (r : Host.Outcome State Fault Refusal) (f : State → Bool) : Bool :=
  match r with
  | .next t => f t
  | .fault _ => false
  | .refused _ => false

/-- The outcome is this next state. -/
def goesTo (r : Host.Outcome State Fault Refusal) (t : State) : Bool := ok r (fun u => u == t)

/-- The outcome is this refusal. -/
def refuses (r : Host.Outcome State Fault Refusal) (why : Refusal) : Bool :=
  match r with
  | .next _ => false
  | .fault _ => false
  | .refused w => w == why

/-- The outcome is a next state that answers a value. -/
def reads (r : Host.Outcome State Fault Refusal) (v : Word) : Bool := ok r fun t => t.resp == .rdata v

/-! ## Well-formedness -/

/-- R6: `LOG2N` is 1..16. -/
theorem test_wf_log2n : (Params.log2nOk ⟨0, 1, 1, 1, 0⟩, Params.log2nOk ⟨1, 1, 1, 1, 0⟩, Params.log2nOk ⟨16, 1, 1, 1, 0⟩,
    Params.log2nOk ⟨17, 1, 1, 1, 0⟩) = (false, true, true, false) := by decide

/-- R6: `BLOCK_SIZE` is 1..N-1. -/
theorem test_wf_blockSize : (Params.blockSizeOk ⟨3, 0, 4, 3, 0⟩, Params.blockSizeOk ⟨3, 1, 4, 3, 0⟩,
    Params.blockSizeOk ⟨3, 7, 4, 3, 0⟩, Params.blockSizeOk ⟨3, 8, 4, 3, 0⟩) = (false, true, true, false) := by decide

/-- R6: `LWM` is 1..N-1. -/
theorem test_wf_lwm : (Params.lwmOk ⟨3, 2, 0, 3, 0⟩, Params.lwmOk ⟨3, 2, 1, 3, 0⟩, Params.lwmOk ⟨3, 2, 7, 3, 0⟩,
    Params.lwmOk ⟨3, 2, 8, 3, 0⟩) = (false, true, true, false) := by decide

/-- R6: `PERIOD` is 1..2^32-1. -/
theorem test_wf_period : (Params.periodOk ⟨3, 2, 4, 0, 0⟩, Params.periodOk ⟨3, 2, 4, 1, 0⟩,
    Params.periodOk ⟨3, 2, 4, 4294967295, 0⟩, Params.periodOk ⟨3, 2, 4, 4294967296, 0⟩) = (false, true, true, false) := by
  decide

/-- R6: `P_CMD` is 0..255. -/
theorem test_wf_pCmd : (Params.pCmdOk ⟨3, 2, 4, 3, 255⟩, Params.pCmdOk ⟨3, 2, 4, 3, 256⟩) = (true, false) := by decide

/-- R7: one parameter out of range makes the set illegal. -/
theorem test_wf_legal : (Config.c8.legal, Config.scenario.legal, Params.legal ⟨3, 2, 4, 3, 256⟩,
    Params.legal ⟨16, 65535, 65535, 4294967295, 255⟩) = (true, true, false, true) := by decide

/-- R112: reserved words. -/
theorem test_wf_reserved : (InputOp.notReserved ⟨0xC00#12, 0⟩, InputOp.notReserved ⟨0x801#12, 0⟩,
    InputOp.notReserved ⟨0x800#12, 0⟩, InputOp.notReserved ⟨0x3FF#12, 0⟩) = (false, false, true, true) := by decide

/-- R100: only host writes carry write data. -/
theorem test_wf_data : (InputOp.dataOnlyOnWrites ⟨0x208#12, 1#32⟩, InputOp.dataOnlyOnWrites ⟨0x600#12, 1#32⟩,
    InputOp.wf ⟨0x800#12, 1#32⟩) = (false, true, false) := by decide

/-- R115: `ticks n` needs `n >= 1`. -/
theorem test_wf_ticks : (AsmOp.wf (.ticks 0), AsmOp.wf (.ticks 1)) = (false, true) := by decide

/-- R114, R102: a tag names the issuing agent. -/
theorem test_wf_tag : (AsmLine.wf ⟨some .busPeripheral, .op .tick⟩, AsmLine.wf ⟨some .timebase, .op .tick⟩,
    AsmLine.wf ⟨none, .send⟩) = (false, true, true) := by decide

/-! ## Decoding: words written out bit by bit from R104 -/

theorem test_decode_host_writes :
    decode ⟨0b011000000000#12, 0xABC#32⟩ = .instr (.push 0xABC#32) ∧
    decode ⟨0b011000000100#12, 0x3F000000#32⟩ = .instr (.pushf 0x3F000000#32) ∧
    decode ⟨0b011000010100#12, 0x7#32⟩ = .instr (.wrCtrl 0x7#32) := by decide

theorem test_decode_ring_and_control_reads :
    decode ⟨0b001000001000#12, 0⟩ = .instr .rdAvail ∧ decode ⟨0b001000001100#12, 0⟩ = .instr .rdFree ∧
    decode ⟨0b001000010000#12, 0⟩ = .instr .rdStatus ∧ decode ⟨0b001000010100#12, 0⟩ = .instr .rdCtrl := by decide

theorem test_decode_counter_reads :
    decode ⟨0b001000011000#12, 0⟩ = .instr .rdSamples ∧ decode ⟨0b001000011100#12, 0⟩ = .instr .rdUpdates ∧
    decode ⟨0b001000100000#12, 0⟩ = .instr .rdUnderruns ∧ decode ⟨0b001000100100#12, 0⟩ = .instr .rdOverruns ∧
    decode ⟨0b001000101000#12, 0⟩ = .instr .rdXferErr := by decide

theorem test_decode_timer_and_parameter_reads :
    decode ⟨0b001000101100#12, 0⟩ = .instr .rdTime ∧ decode ⟨0b001000110000#12, 0⟩ = .instr .rdAlarm ∧
    decode ⟨0b001000110100#12, 0⟩ = .instr .rdParam0 ∧ decode ⟨0b001000111000#12, 0⟩ = .instr .rdParam1 ∧
    decode ⟨0b001000111100#12, 0⟩ = .instr .rdPeriod := by decide

theorem test_decode_events :
    decode ⟨0b100000000000#12, 0⟩ = .instr .tick ∧ decode ⟨0b100100000000#12, 0⟩ = .instr .treq ∧
    decode ⟨0b101000000000#12, 0⟩ = .instr .nack ∧ decode ⟨0b101100000000#12, 0⟩ = .instr .reset := by decide

/-- L2.1: the accesses outside the map. -/
theorem test_decode_bus_errors : ([0x200#12, 0x204#12, 0x608#12, 0x20A#12, 0x240#12, 0x008#12, 0x508#12, 0x400#12, 0x300#12,
    0x700#12].all fun w => decide (decode ⟨w, 0⟩ = .hostAccessError)) = true := by decide

/-- L2.1: the refused words. -/
theorem test_decode_reserved : decode ⟨0x801#12, 0⟩ = .reservedEventBits ∧ decode ⟨0xBFF#12, 0⟩ = .reservedEventBits ∧
    decode ⟨0xC00#12, 0⟩ = .reservedClass ∧ decode ⟨0xFFF#12, 0⟩ = .reservedClass := by decide

/-- The opcode table's numbering, and a word with a bit above the Operation Word. -/
theorem test_decodeTableWord : decodeTableWord 16 0x600 = some (.push 0#32) ∧
    decodeTableWord 48 (0xABC * 65536 + 0x600) = some (.push 0xABC#32) ∧ decodeTableWord 16 0x1600 = none := by decide

/-- R102. -/
theorem test_agents : InputOp.agent ⟨0x600#12, 0⟩ = some .host ∧ InputOp.agent ⟨0x800#12, 0⟩ = some .timebase ∧
    InputOp.agent ⟨0xA00#12, 0⟩ = some .busPeripheral ∧ InputOp.agent ⟨0xB00#12, 0⟩ = some .resetSource ∧
    InputOp.agent ⟨0xC00#12, 0⟩ = none ∧ InputOp.agent ⟨0x801#12, 0⟩ = none := by decide

/-! ## The step -/

/-- A placed word is the next operation. -/
theorem test_step_runs_placed_word :
    ok (step (State.reset.withFetchWord 16 0x800)) (fun t => t.time == 1#32 && t.input == []) = true := by decide

/-- Program P4, lines 6 to 8: bus errors leave all else unchanged, a reserved word is refused. -/
theorem test_step_bus_error_and_refusal :
    goesTo (step { stocked with input := [⟨0x204#12, 0⟩] }) { stocked with resp := .busError } = true ∧
    goesTo (step { stocked with input := [⟨0x508#12, 0⟩] }) { stocked with resp := .busError } = true ∧
    refuses (step { stocked with input := [⟨0xC00#12, 0⟩] }) .reservedClass = true := by decide

/-! ## Ring buffer (L2.2 to L2.4) -/

/-- P-10: the upper bits are ignored and the write index wraps. -/
theorem test_push_wraps : ok (execPush 0x1ABC#32 (at_ Config.c8 7 3))
    (fun t => t.mem == [(7, 0xABC#12)] && t.widx == 0#16 && t.avail == 5 && t.samples == 1#32 && t.blkpos == 1#16) = true := by
  decide

/-- P-4, P-7, P-9: full; full at the end of a block; dropped by the latch with the ring empty. -/
theorem test_push_dropped :
    ok (execPush 2#32 (at_ Config.c8 7 0)) (fun t => t.overruns == 1#32 && t.cause == .overrunFull && t.abort &&
      t.blkpos == 1#16 && t.widx == 7#16 && t.mem == []) = true ∧
    ok (execPush 5#32 { at_ Config.c8 7 0 with blkpos := 1#16 }) (fun t => t.overruns == 1#32 && t.cause == .overrunFull &&
      !t.abort && t.blkpos == 0#16) = true ∧
    ok (execPush 7#32 { at_ Config.c8 2 2 with abort := true, blkpos := 1#16 }) (fun t => t.overruns == 1#32 &&
      t.cause == .overrunAborted && !t.abort && t.blkpos == 0#16 && t.isEmpty) = true := by decide

/-- PUSHF of 0.5 stores 0xBFF; on a full ring it is dropped (L2.3). -/
theorem test_pushf : ok (execPushf 0x3F000000#32 base) (fun t => t.mem == [(0, 0xBFF#12)] && t.widx == 1#16) = true ∧
    ok (execPushf 0x3F000000#32 (at_ Config.c8 7 0)) (fun t => t.overruns == 1#32 && t.cause == .overrunFull && t.abort &&
      t.mem == []) = true := by decide

/-- The conversion gives these codes. -/
def converts (rows : List (Word × Code)) : Bool := rows.all fun x => convert x.1 == x.2

/-- L2.3, the exact values, the clamps and the halves. -/
theorem test_convert_exact : converts [(0xBF800000#32, 0x000#12), (0x00000000#32, 0x800#12), (0x80000000#32, 0x800#12), (0x3F800000#32, 0xFFF#12),
    (0x3FC00000#32, 0xFFF#12), (0xBFC00000#32, 0x000#12), (0x3F000000#32, 0xBFF#12), (0xBF000000#32, 0x400#12)] = true := by
  decide

/-- L2.3, the quarters. -/
theorem test_convert_quarters : converts [(0x3E800000#32, 0x9FF#12), (0xBE800000#32, 0x600#12), (0x3F400000#32, 0xDFF#12), (0xBF400000#32, 0x200#12)] = true := by
  decide

/-- L2.3, the rounding boundaries near the middle. -/
theorem test_convert_boundaries : converts [(0x3A000000#32, 0x800#12), (0xBA000000#32, 0x7FF#12), (0x3A800000#32, 0x801#12), (0x00000001#32, 0x800#12),
    (0x80000001#32, 0x7FF#12), (0x00800000#32, 0x800#12)] = true := by
  decide

/-- L2.3, the rounding boundaries at the ends. -/
theorem test_convert_ends : converts [(0x3F7FFFFF#32, 0xFFF#12), (0x3F7FF000#32, 0xFFF#12), (0x3F7FE000#32, 0xFFE#12), (0xBF7FFFFF#32, 0x000#12),
    (0xBF7FF000#32, 0x000#12), (0xBF7FE000#32, 0x001#12)] = true := by
  decide

/-- L2.3, the largest finite values, the infinities and the NaNs. -/
theorem test_convert_specials : converts [(0x7F7FFFFF#32, 0xFFF#12), (0xFF7FFFFF#32, 0x000#12), (0x7F800000#32, 0xFFF#12), (0xFF800000#32, 0x000#12),
    (0x7FC00000#32, 0x800#12), (0x7F800001#32, 0x800#12), (0xFFFFFFFF#32, 0x800#12)] = true := by
  decide

/-- L2.4. -/
theorem test_rdAvail : reads (execRdAvail (at_ Config.c8 1 6)) 3#32 = true ∧
    reads (execRdAvail (at_ ⟨1, 1, 1, 3, 0⟩ 0 1)) 1#32 = true := by decide

/-- L2.4. -/
theorem test_rdFree : reads (execRdFree (at_ Config.c8 1 6)) 4#32 = true ∧
    reads (execRdFree (at_ Config.scenario 0 256)) 255#32 = true := by decide

/-! ## Registers (L2.5) -/

/-- S-1, S-3. -/
theorem test_rdStatus : reads (execRdStatus State.reset) 0x00000005#32 = true ∧
    reads (execRdStatus { at_ Config.c8 3 4 with
      armed := true, busy := true, cause := .overrunFull, abort := true, blkpos := 1#16 }) 0x0001033A#32 = true := by decide

/-- S-4, S-6. -/
theorem test_rdStatus_refill : reads (execRdStatus { at_ Config.c8 1 0 with rie := true }) 0x00000044#32 = true ∧
    reads (execRdStatus (at_ ⟨3, 2, 7, 3, 0x40⟩ 6 0)) 0x00000000#32 = true := by decide

/-- R286's example, and C-6. -/
theorem test_rdCtrl : reads (execRdCtrl { base with armed := true, rie := true }) 0x3#32 = true ∧
    reads (execRdCtrl base) 0#32 = true := by decide

/-- C-1, C-2, C-4. -/
theorem test_wrCtrl : ok (execWrCtrl 0x3#32 { State.powerOn ⟨3, 2, 4, 10, 0⟩ with time := 40#32 })
      (fun t => t.armed && t.alarm == 50#32 && t.rie) = true ∧
    ok (execWrCtrl 0x1#32 { due with rie := true }) (fun t => t.alarm == 3#32 && !t.rie && t.armed) = true ∧
    ok (execWrCtrl 0x4#32 { base with blkpos := 1#16, abort := true })
      (fun t => t.blkpos == 0#16 && !t.abort && !t.armed && !t.rie) = true := by decide

/-- C-5: bits 31:3 are ignored. -/
theorem test_wrCtrl_ignored_bits : goesTo (execWrCtrl 0xFFFFFFF8#32 base) base = true := by decide

/-- R290 to R294: each read answers its own counter. -/
theorem test_counter_reads :
    let s := base.withCounters 7#32 3#32 2#32 4#32 5#32
    reads (execRdSamples s) 7#32 && reads (execRdUpdates s) 3#32 && reads (execRdUnderruns s) 2#32 &&
      reads (execRdOverruns s) 4#32 && reads (execRdXferErr s) 5#32 = true := by decide

/-- R-4. -/
theorem test_parameter_reads :
    let s := State.powerOn ⟨16, 65535, 65535, 0xFFFFFFFF, 0xFF⟩
    reads (execRdParam0 s) 0xFFFF0010#32 && reads (execRdParam1 s) 0x00FFFFFF#32 && reads (execRdPeriod s) 0xFFFFFFFF#32
      = true := by decide

/-! ## Timer and dispatch (L2.6) -/

/-- T-1, and the wrap of R182: a firing with `ALARM = 0`. -/
theorem test_tick_idle_and_wrap :
    goesTo (execTick { base with time := 5#32, alarm := 6#32 }) { base with time := 6#32, alarm := 6#32 } = true ∧
    ok (execTick { due with time := 0xFFFFFFFF#32, alarm := 0#32 })
      (fun t => t.time == 0#32 && t.updates == 1#32 && t.alarm == 3#32) = true := by decide

/-- R182's example; T-6; L1-4. -/
theorem test_tick_fires :
    ok (execTick { State.powerOn ⟨3, 2, 4, 5, 0x40⟩ with
        mem := [(0, 0x800#12)], widx := 1#16, armed := true, time := 9#32, alarm := 10#32 })
      (fun t => t.time == 10#32 && t.ridx == 1#16 && t.frame == ⟨0x40#8, 0x80#8, 0x00#8⟩ && t.busy && t.updates == 1#32 &&
        t.alarm == 15#32 && !t.tpend) = true ∧
    ok (execTick { dueEmpty with busy := true })
      (fun t => t.underruns == 1#32 && t.cause == .underrunBusy && t.alarm == 6#32) = true ∧
    ok (execTick dueEmpty) (fun t => t.underruns == 1#32 && t.cause == .underrunEmpty && t.ridx == 2#16 &&
      t.alarm == 6#32 && t.out == []) = true := by decide

/-- T-11. -/
theorem test_timer_reads : reads (execRdTime due) 2#32 = true ∧ reads (execRdAlarm due) 3#32 = true := by decide

/-! ## Bus transfer (L2.7) and reset (L2.8) -/

/-- R222's example; B-1. -/
theorem test_treq :
    ok (execTreq { sending with frame := ⟨0x40#8, 0xAB#8, 0xC0#8⟩ })
      (fun t => t.out == [0xC0#8] && !t.busy && t.fpos == 0#2) = true ∧
    goesTo (execTreq due) due = true := by decide

/-- B-4, B-5. -/
theorem test_nack : ok (execNack { sending with fpos := 1#2 })
      (fun t => t.xferErr == 1#32 && t.cause == .xferFail && !t.busy && t.fpos == 0#2 && t.out == []) = true ∧
    goesTo (execNack base) { base with xferErr := 1#32, cause := .xferFail } = true := by decide

/-- X-1. -/
theorem test_reset : goesTo (execReset { sending with out := [0x40#8], underruns := 9#32, rie := true })
    { base with out := [0x40#8] } = true := by decide

/-- L2.7: frames. -/
theorem test_frames : (frameOf Config.c8 0x5A3#12).bytes = [0x40#8, 0x5A#8, 0x30#8] ∧
    (frameOf Config.c8 0x00F#12).bytes = [0x40#8, 0x00#8, 0xF0#8] ∧ (frameOf Config.c8 0xABC#12).code = 0xABC#12 := by decide

/-! ## Assembler (R114, R115) -/

/-- R114's examples. -/
theorem test_asm_operands : assembleText ["push 0x800 ; mid scale", "wr.ctrl 0x1", "pushf 0.5", "tb: tick", ""] =
    some [⟨0x600#12, 0x800#32⟩, ⟨0x614#12, 1#32⟩, ⟨0x604#12, 0x3F000000#32⟩, ⟨0x800#12, 0⟩] := by decide

/-- R115: expansions. -/
theorem test_asm_pseudo : assembleText ["pushblk 0x800, 0xFFF", "arm.ie", "ticks 2", "send"] =
    some [⟨0x600#12, 0x800#32⟩, ⟨0x600#12, 0xFFF#32⟩, ⟨0x614#12, 3#32⟩, ⟨0x800#12, 0⟩, ⟨0x800#12, 0⟩, ⟨0x900#12, 0⟩,
      ⟨0x900#12, 0⟩, ⟨0x900#12, 0⟩] := by decide

/-- Refused lines: `ticks 0`, a wrong tag, an unknown mnemonic, a read with an operand. -/
theorem test_asm_refused : parseLine "ticks 0" = none ∧ parseLine "bus: tick" = none ∧ parseLine "pop" = none ∧
    parseLine "rd.avail 1" = none := by decide

/-- Literals of L1-5, a tie to even (1 + 2^-24), and an exponent. -/
theorem test_asm_literals : parseSample "-1.0".toList = some 0xBF800000#32 ∧ parseSample "1.5".toList = some 0x3FC00000#32 ∧
    parseSample "1.000000059604644775390625".toList = some 0x3F800000#32 ∧
    parseSample "2.5e-1".toList = some 0x3E800000#32 ∧ parseSample "0.1".toList = some 0x3DCCCCCD#32 := by decide

/-! ## Witnesses: concrete states and operands that meet a statement's hypotheses together -/

/-- A TICK on `due`: the firing pops 0x123. -/
def popped : State :=
  { due with
    time := 3#32, alarm := 6#32, ridx := 1#16, busy := true, frame := ⟨0x40#8, 0x12#8, 0x30#8⟩, updates := 1#32 }

theorem stocked_inv : stocked.Inv := by constructor <;> decide

theorem due_inv : due.Inv := by constructor <;> decide

theorem sending_inv : sending.Inv := by constructor <;> decide

theorem due_tick : exec .tick due = .next popped := rfl
theorem stocked_rdFree : exec .rdFree stocked = .next { stocked with resp := .rdata 5#32 } := rfl

/-- OpcodeMapDecodes, DecodeAndEncodeAgree: inputs that decode, one with write data that is not looked at. -/
theorem witness_decodes : decode ⟨0x600#12, 0x5#32⟩ = .instr (.push 0x5#32) ∧ decode ⟨0x208#12, 0x7#32⟩ = .instr .rdAvail :=
  by decide

/-- ReservedWordsAreRefused, both clauses; the boundary values of class `11` and of `Z`. -/
theorem witness_reserved : Config.c8.legal = true ∧
    BitVec.extractLsb' 10 2 0xC00#12 = 0b11#2 ∧ BitVec.extractLsb' 10 2 0xFFF#12 = 0b11#2 ∧
    (BitVec.extractLsb' 10 2 0x801#12 = 0b10#2 ∧ BitVec.extractLsb' 0 8 0x801#12 ≠ 0x00#8) ∧
    (BitVec.extractLsb' 10 2 0xBFF#12 = 0b10#2 ∧ BitVec.extractLsb' 0 8 0xBFF#12 ≠ 0x00#8) := by decide

/-- AccessOutsideMapIsBusError: the lowest and the highest words of classes `00` and `01`, none of them a row. -/
theorem witness_outside_map : ([0x000#12, 0x3FF#12, 0x400#12, 0x7FF#12].all fun w =>
    decide (BitVec.extractLsb' 10 2 w = 0b00#2 ∨ BitVec.extractLsb' 10 2 w = 0b01#2) &&
    decide (w ∉ [0x600#12, 0x604#12, 0x614#12, 0x208#12, 0x20C#12, 0x210#12, 0x214#12, 0x218#12, 0x21C#12, 0x220#12, 0x224#12,
      0x228#12, 0x22C#12, 0x230#12, 0x234#12, 0x238#12, 0x23C#12])) = true := by decide

/-- StepRunsDecodedOperation, PendingListRunsInOrder: a legal state with a pending operation. -/
theorem witness_step : ∃ s : State, s.params.legal = true ∧ s.input = [⟨0x800#12, 0#32⟩] ∧
    decode ⟨0x800#12, 0#32⟩ = .instr .tick :=
  ⟨{ due with input := [⟨0x800#12, 0#32⟩] }, by decide, rfl, by decide⟩

/-- EveryInterleavingRuns: the host's two accesses, one of them outside the map, with a TICK between them. -/
theorem witness_interleaving : due.Inv ∧ isInterleaving [⟨0x600#12, 1#32⟩, ⟨0x800#12, 0#32⟩, ⟨0x204#12, 0#32⟩]
    (fun a => match a with
      | .host => [⟨0x600#12, 1#32⟩, ⟨0x204#12, 0#32⟩]
      | .timebase => [⟨0x800#12, 0#32⟩]
      | .busPeripheral => []
      | .resetSource => []) :=
  ⟨due_inv, by decide, fun a => by cases a <;> decide⟩

/-- IllegalParametersAreRefused: an illegal and a legal set. -/
theorem witness_illegal : refuses (step (State.powerOn ⟨17, 2, 4, 3, 0⟩)) .illegalParameters = true ∧
    refuses (step base) .illegalParameters = false := by decide

/-- StepIsRefusedOnlyByName: each way to be refused. -/
theorem witness_refused : step (State.powerOn ⟨0, 2, 4, 3, 0⟩) = .refused .illegalParameters ∧
    step base = .refused .noInput ∧ step { base with input := [⟨0xC00#12, 0#32⟩] } = .refused .reservedClass ∧
    step { base with input := [⟨0xBFF#12, 0#32⟩] } = .refused .reservedEventBits := ⟨rfl, rfl, rfl, rfl⟩

/-- OrderOfSimultaneousEventsMatters, the three clauses. -/
theorem witness_order : (dueEmpty.params.legal = true ∧ dueEmpty.armed = true ∧ dueEmpty.alarm = dueEmpty.time + 1#32 ∧
      dueEmpty.busy = false ∧ dueEmpty.avail = 0 ∧ dueEmpty.abort = false) ∧
    (sending.Inv ∧ sending.armed = true ∧ sending.alarm = sending.time + 1#32 ∧ sending.busy = true ∧
      sending.fpos = 2#2 ∧ 0 < sending.avail) :=
  ⟨by decide, sending_inv, by decide⟩

/-- PowerOnIsTheResetState, PowerOnMeetsInvariant, FrameCarriesItsCode, FillLevelReads, OneSlotIsAlwaysKeptEmpty,
ParameterReads: the smallest and the largest instance and C8 are legal, and each has a power-on state without input. -/
theorem witness_legal : Params.legal ⟨1, 1, 1, 1, 0⟩ = true ∧ Params.legal ⟨16, 65535, 65535, 4294967295, 255⟩ = true ∧
    Config.c8.legal = true ∧ base.params = Config.c8 ∧ base.input = [] :=
  ⟨by decide, by decide, by decide, rfl, rfl⟩

/-- StepKeepsInvariant, InvariantStatesNeverFault: a state with the invariant that steps. -/
theorem witness_invariant_step : ∃ s t : State, s.Inv ∧ step s = .next t :=
  ⟨{ due with input := [⟨0x800#12, 0#32⟩] }, popped, by constructor <;> decide, rfl⟩

/-- PushCodeProcedure: the latch, the full ring, the wrap of the write index, both sides of the block's end. -/
theorem witness_push : ({ stocked with abort := true } : State).params.legal = true ∧
    (full.abort = false ∧ (full.wr.toNat + 1) % 2 ^ full.params.log2n = full.rd.toNat) ∧
    ((at_ Config.c8 7 3).abort = false ∧
      ((at_ Config.c8 7 3).wr.toNat + 1) % 2 ^ (at_ Config.c8 7 3).params.log2n ≠ (at_ Config.c8 7 3).rd.toNat) ∧
    ({ stocked with blkpos := 1#16 } : State).blkpos.toNat + 1 = Config.c8.blockSize ∧
    stocked.blkpos.toNat + 1 ≠ Config.c8.blockSize := by decide

/-- PushfPushesConvertedCode. -/
theorem witness_pushf : BitVec.extractLsb' 0 12 0xBFF#32 = convert 0x3F000000#32 := by decide

/-- ConvertIsExactFormula, ConvertIntervalsAndTies: a NaN, and samples that are none, the infinities among them. -/
theorem witness_convert : (isNaN 0x7F800001#32, isNaN 0xFF800000#32, isNaN 0x7F800000#32, isNaN 0x00000000#32,
    isNaN 0x80000001#32) = (true, false, false, false, false) := by decide

/-- ConvertIntervalsAndTies, the order: the infinities clamp to -1 and 1. -/
theorem witness_convert_order : clampedValue 0xFF800000#32 ≤ clampedValue 0x7F800000#32 := by
  have h1 : binExp 0xFF800000#32 = 255 := by decide
  have h2 : binExp 0x7F800000#32 = 255 := by decide
  have h3 : binSign 0xFF800000#32 = true := by decide
  have h4 : binSign 0x7F800000#32 = false := by decide
  norm_num [clampedValue, h1, h2, h3, h4]

/-- AvailChangesByOne, IrqRisesAndFalls, CountersCountTheirEvents, OnlyResetDisarms, EveryElementHasItsWriters: a stored
push, a pop, and an operation that does neither. -/
theorem witness_ring_effects : storedBy (.push 1#32) stocked ≠ [] ∧ poppedBy .tick due ≠ [] ∧
    storedBy .nack stocked = [] ∧ poppedBy .nack stocked = [] ∧ stocked.params.legal = true ∧ due.params.legal = true ∧
    ok (exec (.push 1#32) stocked) (fun t => t.avail == 3) = true ∧ ok (exec .tick due) (fun t => t.avail == 1) = true ∧
    ok (exec .nack stocked) (fun t => t.avail == 2) = true := by decide

/-- IrqRisesAndFalls: a rise by a pop, a fall by a push, and both by a write of `RIE`. -/
theorem witness_irq :
    let low : State := { at_ Config.c8 3 0 with rie := true }
    let high : State := { due with mem := (0, 0#12) :: (1, 1#12) :: (2, 2#12) :: (3, 3#12) :: [], widx := 4#16, rie := true }
    (low.irq = true ∧ ok (exec (.push 0#32) low) (fun t => !t.irq) = true) ∧
    (high.irq = false ∧ ok (exec .tick high) (fun t => t.irq) = true) ∧
    (ok (exec (.wrCtrl 0#32) low) (fun t => !t.irq) = true ∧ ok (exec (.wrCtrl 2#32) base) (fun t => t.irq) = true) := by
  decide

/-- CodesLeaveInPushOrder, SamplesAreStoredPlusOverruns, FiringsAreUpdatesOrUnderruns, OutputIsLeadingPartsOfFrames,
StaleFillLevelsErrSafely: a run without RESET, without NACK and without a push, from a state with the invariant. -/
theorem witness_run : due.Inv ∧ Instr.reset ∉ [Instr.tick] ∧ Instr.nack ∉ [Instr.tick] ∧
    (∀ i ∈ [Instr.tick], isPush i = false) ∧ execAll [.tick] due = .next popped :=
  ⟨due_inv, by decide, by decide, by decide, rfl⟩

/-- TickWithoutFiring: Idle, and Armed but not due. -/
theorem witness_no_firing : stocked.armed = false ∧ popped.armed = true ∧ popped.time + 1#32 ≠ popped.alarm := by decide

/-- DispatchTable: a collision, an empty ring, a pop, and the pop that wraps the read index. -/
theorem witness_dispatch :
    (∀ s ∈ [due, sending, dueEmpty], s.params.legal = true ∧ s.armed = true ∧ s.time + 1#32 = s.alarm) ∧
    sending.busy = true ∧ (dueEmpty.busy = false ∧ dueEmpty.rd = dueEmpty.wr) ∧
    (due.busy = false ∧ due.rd ≠ due.wr ∧ due.mem.read due.rd.toNat = some 0x123#12) ∧
    (let s : State := { due with mem := [(7, 0xFFF#12)], ridx := 7#16, widx := 0#16 }
     s.busy = false ∧ s.rd ≠ s.wr ∧ s.mem.read s.rd.toNat = some 0xFFF#12) := by decide

/-- UnwrittenSlotPopFaults. -/
theorem witness_unwritten :
    let s : State := { due with mem := [] }
    s.armed = true ∧ s.time + 1#32 = s.alarm ∧ s.busy = false ∧ s.rd ≠ s.wr ∧ s.mem.read s.rd.toNat = none := by decide

/-- FiringsDoNotDrift: an arming write, a run after it, and a firing. -/
theorem witness_arming : base.params.legal = true ∧ base.armed = false ∧ (0x1#32).getLsbD 0 = true ∧
    exec (.wrCtrl 0x1#32) base = .next { base with armed := true, alarm := 3#32 } ∧ Instr.reset ∉ [Instr.tick] ∧
    execAll [.tick] { base with armed := true, alarm := 3#32 } =
      .next { base with armed := true, alarm := 3#32, time := 1#32 } ∧
    firesOn .tick due = true ∧ exec .tick due = .next popped :=
  ⟨by decide, rfl, by decide, rfl, by decide, rfl, by decide, rfl⟩

/-- OnlyResetDisarms: the two transitions. -/
theorem witness_disarm : due.armed = true ∧ ok (exec .reset due) (fun t => !t.armed) = true ∧ base.armed = false ∧
    ok (exec (.wrCtrl 0x1#32) base) (fun t => t.armed) = true := by decide

/-- TransferRequestHandsOverOneByte, SendPseudoSendsWholeFrame, FrameIndexThreeFaults: each value of `FPOS`, and no frame. -/
theorem witness_transfer : due.busy = false ∧ (popped.busy = true ∧ popped.fpos = 0#2) ∧
    (let s : State := { sending with fpos := 1#2 }
     s.busy = true ∧ s.fpos = 1#2) ∧ (sending.busy = true ∧ sending.fpos = 2#2) ∧
    (let s : State := { sending with fpos := 3#2 }
     s.busy = true ∧ s.fpos = 3#2) := by decide

/-- DefaultWatermarkAloneRefills: C8 has the default watermark, and so has the smallest ring. -/
theorem witness_default_watermark : ∀ p ∈ [Config.c8, (⟨1, 1, 1, 1, 0⟩ : Params)],
    p.legal = true ∧ p.lwm = p.defaultLwm ∧ p.blockSize ≤ p.cap / 2 := by decide

/-- EventsRecordTheirCause: an underrun of each kind, an overrun of each kind, a failed transfer, a reset. -/
theorem witness_events :
    ok (exec .tick sending) (fun t => t.underruns != sending.underruns && t.cause != sending.cause) = true ∧
    ok (exec .tick dueEmpty) (fun t => t.underruns != dueEmpty.underruns) = true ∧
    ok (exec (.push 0#32) full) (fun t => t.overruns != full.overruns) = true ∧
    ok (exec (.push 0#32) { base with abort := true }) (fun t => t.overruns != base.overruns) = true ∧
    ok (exec .nack base) (fun t => t.xferErr != base.xferErr) = true ∧
    ok (exec .reset sending) (fun t => t.cause == .none) = true := by decide

/-- CountersNeverGateBehaviour, HostNeverTouchesTheFrame: the operations meant. -/
theorem witness_operations : readsCounter .tick = false ∧ readsCounter (.push 0#32) = false ∧ isHostOp .rdStatus = true ∧
    isHostOp (.pushf 0#32) = true := by decide

/-- HostSeesIndicesOnlyThroughAvail: the indices (1, 6) and (3, 0) of a ring of 8 give the same level. -/
theorem witness_same_level :
    let s := at_ Config.c8 1 6
    let u : State := { s with mem := stocked.mem, widx := 3#16, ridx := 0#16 }
    s.params.legal = true ∧ isHostOp .rdAvail = true ∧ u.avail = s.avail ∧
    ok (exec .rdAvail s) (fun t => t.resp == .rdata 3#32) = true ∧ ok (exec .rdAvail u) (fun t => t.resp == .rdata 3#32) = true
    := by decide

/-- NoOverrunUnderRefillPolicy: a granted block of two, with a TICK and a second grant inside it. -/
theorem witness_policy : stocked.Inv ∧ Instr.reset ∉ [Instr.rdFree, .push 1#32, .tick, .rdStatus, .push 2#32] ∧
    pushesWholeBlocks grantsBlock atBoundary [.rdFree, .push 1#32, .tick, .rdStatus, .push 2#32] stocked 0 false = true :=
  ⟨stocked_inv, by decide, by decide⟩

/-- NoOverrunUnderRefillPolicy: a grant read off the boundary, then `BSYNC`, then the block. -/
theorem witness_policy_bsync :
    let s : State := { stocked with blkpos := 1#16, abort := true }
    s.Inv ∧ pushesWholeBlocks grantsBlock atBoundary [.rdStatus, .wrCtrl 0x4#32, .push 1#32] s 0 false = true :=
  ⟨by constructor <;> decide, by decide⟩

/-- HysteresisBoundsTheFill: a block on a read of `AVAIL`, begun off the boundary, and one on `REFILL`. -/
theorem witness_hysteresis :
    let s : State := { stocked with blkpos := 1#16 }
    s.Inv ∧ s.avail < s.params.lwm + s.params.blockSize ∧
    pushesWholeBlocks grantsRefill anywhere [.rdAvail, .push 1#32, .push 2#32] s 0 false = true ∧
    pushesWholeBlocks grantsRefill anywhere [.rdStatus, .push 1#32] s 0 false = true :=
  ⟨by constructor <;> decide, by decide, by decide,
    by decide⟩

/-- WatermarkCoversTheSleep: an armed ring at its watermark, and the most ticks the bound allows. -/
theorem witness_sleep :
    let s : State := { due with mem := (0, 0#12) :: (1, 1#12) :: (2, 2#12) :: (3, 3#12) :: [], widx := 4#16 }
    s.Inv ∧ s.params.lwm ≤ s.avail ∧ Instr.reset ∉ List.replicate 12 Instr.tick ∧
      (List.replicate 12 Instr.tick).count .tick ≤ s.params.lwm * s.params.period :=
  ⟨by constructor <;> decide, by decide, by decide, by decide⟩

/-- EndToEndRefillScenario. -/
theorem witness_scenario : (0x40 : Nat) ≤ 255 ∧ (List.replicate 256 (0xABC#32 : Word)).length = 256 ∧
    (List.replicate 64 (0x123#32 : Word)).length = 64 :=
  ⟨by decide, List.length_replicate, List.length_replicate⟩

end Sys2Proof.Tests
end

section
/-! SUPPORT. Proofs for 00_scope.md: how the decoder sorts the words by their class (R105), what a step does with
each kind of input and how it can be refused, and the statements of that file. -/

namespace Sys2Proof

/-! ## The decoder, class by class -/

/-- The class of a word selects its decoder (R101, R105). -/
theorem decode_cases (o : InputOp) :
    (Opw.cls o.opw = 0b11#2 ∧ decode o = .reservedClass) ∨
    (Opw.cls o.opw = 0b10#2 ∧ decode o = decodeEvent o.opw) ∨
    (Opw.cls o.opw = 0b00#2 ∧ decode o = decodeRead o.opw) ∨
    (Opw.cls o.opw = 0b01#2 ∧ decode o = decodeWrite o.opw o.wdata) := by
  have hcls : ∀ c : BitVec 2, c = 0b11#2 ∨ c = 0b10#2 ∨ c = 0b00#2 ∨ c = 0b01#2 := by decide
  rcases hcls (Opw.cls o.opw) with h | h | h | h <;> simp [decode, h]

/-- A host read is an operation or lies outside the map (R105, R111). -/
theorem decodeRead_cases (w : Opw) : (∃ i, decodeRead w = .instr i) ∨ decodeRead w = .hostAccessError := by
  unfold decodeRead
  split
  · split
    · exact .inl ⟨_, rfl⟩
    · exact .inr rfl
  · exact .inr rfl

/-- A host write is an operation or lies outside the map (R105, R111). -/
theorem decodeWrite_cases (w : Opw) (wdata : Word) :
    (∃ i, decodeWrite w wdata = .instr i) ∨ decodeWrite w wdata = .hostAccessError := by
  unfold decodeWrite
  split
  · split
    · exact .inl ⟨_, rfl⟩
    · exact .inr rfl
  · exact .inr rfl

/-- An event word is reserved where `Z ≠ 0x00`, and else an operation (R105, R112). -/
theorem decodeEvent_cases (w : Opw) :
    (Opw.offZ w ≠ 0x00#8 ∧ decodeEvent w = .reservedEventBits) ∨
    (Opw.offZ w = 0x00#8 ∧ ∃ i, decodeEvent w = .instr i) := by
  by_cases hz : Opw.offZ w = 0x00#8
  · refine .inr ⟨hz, ?_⟩
    simp only [decodeEvent, hz, ne_eq, not_true_eq_false, if_false]
    split
    · exact ⟨_, rfl⟩
    · split
      · exact ⟨_, rfl⟩
      · split <;> exact ⟨_, rfl⟩
  · exact .inl ⟨hz, by simp [decodeEvent, hz]⟩

/-- The words refused for their class are those of class `11` (R112). -/
theorem decode_eq_reservedClass_iff (o : InputOp) : decode o = .reservedClass ↔ Opw.cls o.opw = 0b11#2 := by
  rcases decode_cases o with ⟨hc, e⟩ | ⟨hc, e⟩ | ⟨hc, e⟩ | ⟨hc, e⟩
  · simp [hc, e]
  · rcases decodeEvent_cases o.opw with ⟨-, e'⟩ | ⟨-, i, e'⟩ <;> simp [hc, e, e']
  · rcases decodeRead_cases o.opw with ⟨i, e'⟩ | e' <;> simp [hc, e, e']
  · rcases decodeWrite_cases o.opw o.wdata with ⟨i, e'⟩ | e' <;> simp [hc, e, e']

/-- The words refused for their event bits are those of class `10` with `Z ≠ 0x00` (R112). -/
theorem decode_eq_reservedEventBits_iff (o : InputOp) :
    decode o = .reservedEventBits ↔ Opw.cls o.opw = 0b10#2 ∧ Opw.offZ o.opw ≠ 0x00#8 := by
  rcases decode_cases o with ⟨hc, e⟩ | ⟨hc, e⟩ | ⟨hc, e⟩ | ⟨hc, e⟩
  · simp [hc, e]
  · rcases decodeEvent_cases o.opw with ⟨hz, e'⟩ | ⟨hz, i, e'⟩ <;> simp [hc, e, e', hz]
  · rcases decodeRead_cases o.opw with ⟨i, e'⟩ | e' <;> simp [hc, e, e']
  · rcases decodeWrite_cases o.opw o.wdata with ⟨i, e'⟩ | e' <;> simp [hc, e, e']

end Sys2Proof

namespace Sys2Proof.Machine

variable {s : State} {o : InputOp} {rest : List InputOp}

/-! ## What a step finds -/

theorem fetch_of_illegal (hl : s.params.legal = false) : fetch s = .refused .illegalParameters := by
  simp [fetch, hl]

theorem fetch_of_no_input (hl : s.params.legal = true) (hi : s.input = []) : fetch s = .refused .noInput := by
  simp [fetch, hl, hi]

theorem fetch_of_input (hl : s.params.legal = true) (hi : s.input = o :: rest) :
    fetch s = .input (decode o) (takeInput rest s) := by
  simp [fetch, hl, hi]

/-! ## What a step does -/

/-- An illegal parameter set is refused before the input is looked at (R7; log entry 2). -/
theorem step_of_illegal (hl : s.params.legal = false) : step s = .refused .illegalParameters := by
  simp [step, fetch_of_illegal hl]

/-- Without a pending input there is no step (log entry 3). -/
theorem step_of_no_input (hl : s.params.legal = true) (hi : s.input = []) : step s = .refused .noInput := by
  simp [step, fetch_of_no_input hl hi]

/-- An input that decodes to an operation is performed at the state without it (R13, R80). -/
theorem step_of_instr {i : Instr} (hl : s.params.legal = true) (hi : s.input = o :: rest)
    (hd : decode o = .instr i) : step s = exec i (takeInput rest s) := by
  simp [step, fetch_of_input hl hi, hd]

/-- A host access outside the map is a bus error (R111, R325). -/
theorem step_of_hostAccessError (hl : s.params.legal = true) (hi : s.input = o :: rest)
    (hd : decode o = .hostAccessError) : step s = .next (busError (takeInput rest s)) := by
  simp [step, fetch_of_input hl hi, hd]

/-- A word of class `11` is refused (R112). -/
theorem step_of_reservedClass (hl : s.params.legal = true) (hi : s.input = o :: rest)
    (hd : decode o = .reservedClass) : step s = .refused .reservedClass := by
  simp [step, fetch_of_input hl hi, hd]

/-- An event word with `Z ≠ 0x00` is refused (R112). -/
theorem step_of_reservedEventBits (hl : s.params.legal = true) (hi : s.input = o :: rest)
    (hd : decode o = .reservedEventBits) : step s = .refused .reservedEventBits := by
  simp [step, fetch_of_input hl hi, hd]

/-- The four ways a step is refused. An operation is none of them (`exec_not_refused`). -/
theorem step_refused_cases {r : Refusal} (h : step s = .refused r) :
    (s.params.legal = false ∧ r = .illegalParameters) ∨
    (s.params.legal = true ∧ s.input = [] ∧ r = .noInput) ∨
    ∃ o rest, s.params.legal = true ∧ s.input = o :: rest ∧
      ((decode o = .reservedClass ∧ r = .reservedClass) ∨
       (decode o = .reservedEventBits ∧ r = .reservedEventBits)) := by
  cases hl : s.params.legal with
  | false =>
    rw [step_of_illegal hl, Host.Outcome.refused.injEq] at h
    exact .inl ⟨rfl, h.symm⟩
  | true =>
    cases hi : s.input with
    | nil =>
      rw [step_of_no_input hl hi, Host.Outcome.refused.injEq] at h
      exact .inr (.inl ⟨rfl, rfl, h.symm⟩)
    | cons o rest =>
      refine .inr (.inr ⟨o, rest, rfl, rfl, ?_⟩)
      cases hd : decode o with
      | instr i =>
        rw [step_of_instr hl hi hd] at h
        exact absurd h (exec_not_refused i _ r)
      | hostAccessError =>
        rw [step_of_hostAccessError hl hi hd] at h
        cases h
      | reservedClass =>
        rw [step_of_reservedClass hl hi hd, Host.Outcome.refused.injEq] at h
        exact .inl ⟨rfl, h.symm⟩
      | reservedEventBits =>
        rw [step_of_reservedEventBits hl hi hd, Host.Outcome.refused.injEq] at h
        exact .inr ⟨rfl, h.symm⟩

/-- The refusal for the parameters is that of an illegal set and of no other (R7). -/
theorem step_eq_illegalParameters_iff (s : State) :
    step s = .refused .illegalParameters ↔ s.params.legal = false := by
  refine ⟨fun h => ?_, step_of_illegal⟩
  rcases step_refused_cases h with ⟨hl, -⟩ | ⟨-, -, hr⟩ | ⟨o, rest, -, -, ⟨-, hr⟩ | ⟨-, hr⟩⟩
  · exact hl
  · cases hr
  · cases hr
  · cases hr

/-! ## The statements -/

/-- Settles O7: the ranges are those of `Params.legal_iff`, and only an illegal set is refused under this name. -/
theorem illegalParametersAreRefused : Obligations.IllegalParametersAreRefused := by
  intro s
  rw [step_eq_illegalParameters_iff, ← Bool.not_eq_true, Params.legal_iff, Params.cap]

/-- Settles O8: the ways a step is refused, with a reserved word told by its bits. -/
theorem stepIsRefusedOnlyByName : Obligations.StepIsRefusedOnlyByName := by
  intro s r h
  rcases step_refused_cases h with ⟨hl, hr⟩ | ⟨-, hi, hr⟩ | ⟨o, rest, -, hi, ⟨hd, hr⟩ | ⟨hd, hr⟩⟩
  · exact .inl ⟨hr, hl⟩
  · exact .inr (.inl ⟨hr, hi⟩)
  · exact .inr (.inr ⟨o, rest, hi, .inl ⟨hr, (decode_eq_reservedClass_iff o).mp hd⟩⟩)
  · exact .inr (.inr ⟨o, rest, hi, .inr ⟨hr, (decode_eq_reservedEventBits_iff o).mp hd⟩⟩)

/-- Settles O6, by the rule for an input that decodes to an operation. -/
theorem stepRunsDecodedOperation : Obligations.StepRunsDecodedOperation := by
  intro s o rest i hl hi hd
  exact step_of_instr hl hi hd

end Sys2Proof.Machine
end

section
/-! SUPPORT. Proofs for 10_state.md: what an operation that completes does, by the branch it takes (R141, R182, R191,
R222, R225, R287, R360), how the fill level moves, that every operation keeps the invariant, and the statements of
that file. -/

namespace Sys2Proof.Machine

variable {s t : State} {i : Instr}

/-! ## What kind of operation it is -/

theorem isPush_of_pushedCode {c : Code} (h : pushedCode i = some c) : isPush i = true := by
  simp [isPush, h]

theorem isHostOp_of_isPush (h : isPush i = true) : isHostOp i = true := by
  cases i with
  | push w => rfl
  | pushf w => rfl
  | _ => cases h

/-- A host operation is no event (R102). -/
theorem isHostOp_ne_event (h : isHostOp i = true) : i ≠ .tick ∧ i ≠ .treq ∧ i ≠ .nack ∧ i ≠ .reset := by
  refine ⟨?_, ?_, ?_, ?_⟩ <;> rintro rfl <;> exact absurd h (by decide)

theorem isHostOp_of_pushedCode {c : Code} (h : pushedCode i = some c) : isHostOp i = true :=
  isHostOp_of_isPush (isPush_of_pushedCode h)

@[simp] theorem isPush_tick : isPush .tick = false := rfl

@[simp] theorem firesOn_tick (s : State) : firesOn .tick s = (advanceTime s).firesNow := by simp [firesOn]

theorem firesOn_of_ne_tick (h : i ≠ .tick) (s : State) : firesOn i s = false := by simp [firesOn, h]

/-! ## What an operation does -/

/-- WR.CTRL as one update: the elements it may write, and no other (R287). -/
theorem writeCtrl_eq (w : Word) (s : State) :
    writeCtrl w s =
      { s with
        armed := ctrlArm w || s.armed
        alarm := if ctrlArm w && !s.armed then s.time + s.params.periodWord else s.alarm
        rie := ctrlRie w
        blkpos := if ctrlBsync w then 0#16 else s.blkpos
        abort := if ctrlBsync w then false else s.abort } := by
  unfold writeCtrl
  cases ctrlArm w <;> cases ctrlBsync w <;> cases ha : s.armed <;>
    simp [armTimer, setRie, syncBlock, ha]

/-- NACK as one update: a frame in transfer is over, and without one `BUSY` and `FPOS` stay (R225). -/
theorem failTransfer_eq (s : State) :
    failTransfer s =
      { s with
        xferErr := s.xferErr + 1#32
        cause := .xferFail
        busy := false
        fpos := if s.busy then 0#2 else s.fpos } := by
  unfold failTransfer
  cases hb : s.busy <;> simp [endTransfer, countXferError, hb]

/-- `Effect s i t`: from `s` the operation `i` completes in `t`. One constructor for each branch an operation can
take. -/
inductive Effect (s : State) : Instr → State → Prop where
  /-- A push that finds the abort latch set (R141). -/
  | pushAborted {i : Instr} {c : Code} (hp : pushedCode i = some c) (ha : s.abort = true) :
      Effect s i (respond .noData (advanceBlock (dropCode .overrunAborted (countSample s))))
  /-- A push that finds the ring full (R141). -/
  | pushFull {i : Instr} {c : Code} (hp : pushedCode i = some c) (ha : s.abort = false) (hf : s.isFull = true) :
      Effect s i (respond .noData (advanceBlock (latchAbort (dropCode .overrunFull (countSample s)))))
  /-- A push that stores its code (R141). -/
  | pushStored {i : Instr} {c : Code} (hp : pushedCode i = some c) (ha : s.abort = false) (hf : s.isFull = false) :
      Effect s i (respond .noData (advanceBlock (storeCode c (countSample s))))
  /-- A TICK without a firing (R183). -/
  | tickQuiet (hf : (advanceTime s).firesNow = false) : Effect s .tick (respond .noData (advanceTime s))
  /-- A firing that finds a frame in transfer (R187). -/
  | tickBusy (hf : (advanceTime s).firesNow = true) (hb : s.busy = true) :
      Effect s .tick
        (respond .noData (rearm (recordUnderrun .underrunBusy (clearPending (setPending (advanceTime s))))))
  /-- A firing that finds the ring empty (R189). -/
  | tickEmpty (hf : (advanceTime s).firesNow = true) (hb : s.busy = false) (he : s.isEmpty = true) :
      Effect s .tick
        (respond .noData (rearm (recordUnderrun .underrunEmpty (clearPending (setPending (advanceTime s))))))
  /-- A firing that pops a code (R188). -/
  | tickPop {c : Code} (hf : (advanceTime s).firesNow = true) (hb : s.busy = false) (he : s.isEmpty = false)
      (hm : s.mem.read s.rd.toNat = some c) :
      Effect s .tick
        (respond .noData (rearm (issueFrame c (advanceRead (clearPending (setPending (advanceTime s)))))))
  /-- A TREQ with no frame in transfer (R223). -/
  | treqIdle (hb : s.busy = false) : Effect s .treq (respond .noData s)
  /-- A TREQ for the last byte of the frame (R222). -/
  | treqLast {b : Byte} (hb : s.busy = true) (hp : s.fpos = 2#2) :
      Effect s .treq (respond .noData (endTransfer (emit b s)))
  /-- A TREQ for a byte before the last (R222). -/
  | treqByte {b : Byte} (hb : s.busy = true) (hp : s.fpos ≠ 2#2) :
      Effect s .treq (respond .noData (advanceByte (emit b s)))
  /-- A NACK (R225). -/
  | nack : Effect s .nack (respond .noData (failTransfer s))
  /-- A write of `CTRL` (R287). -/
  | wrCtrl (w : Word) : Effect s (.wrCtrl w) (respond .noData (writeCtrl w s))
  /-- RESET (R360). -/
  | reset : Effect s .reset (respond .noData (resetBlock s))
  /-- A register read: a host operation that is no write. -/
  | read {i : Instr} (hh : isHostOp i = true) (hp : isPush i = false) (hw : ∀ w : Word, i ≠ .wrCtrl w)
      (r : Response) : Effect s i (respond r s)

theorem effect_of_push {c : Code} (hp : pushedCode i = some c) (h : exec i s = .next t) : Effect s i t := by
  rw [exec_push_eq hp, Host.Outcome.next.injEq] at h
  subst h
  rcases pushCode_cases c s with ⟨ha, e⟩ | ⟨ha, hf, e⟩ | ⟨ha, hf, e⟩
  · rw [e]; exact .pushAborted hp ha
  · rw [e]; exact .pushFull hp ha hf
  · rw [e]; exact .pushStored hp ha hf

/-- An operation that completes takes one of these branches. -/
theorem effect_of_exec (h : exec i s = .next t) : Effect s i t := by
  cases i with
  | push w => exact effect_of_push rfl h
  | pushf w => exact effect_of_push rfl h
  | tick =>
    rcases execTick_cases h with ⟨hf, rfl⟩ | ⟨hf, hb, rfl⟩ | ⟨hf, hb, he, rfl⟩ | ⟨hf, hb, he, c, hm, rfl⟩
    · exact .tickQuiet hf
    · exact .tickBusy hf hb
    · exact .tickEmpty hf hb he
    · exact .tickPop hf hb he hm
  | treq =>
    rcases execTreq_cases h with ⟨hb, rfl⟩ | ⟨b, hb, -, ⟨hp, rfl⟩ | ⟨hp, rfl⟩⟩
    · exact .treqIdle hb
    · exact .treqLast hb hp
    · exact .treqByte hb hp
  | nack => cases h; exact .nack
  | wrCtrl w => cases h; exact .wrCtrl w
  | reset => cases h; exact .reset
  | _ => cases h; exact .read rfl rfl (by simp) _

/-! ## What a step does -/

/-- A step is refused, or it is an operation at the state without its input, or it is a bus error there (R13, R112,
R325). -/
theorem step_cases (s : State) :
    (∃ r, step s = .refused r) ∨
    ∃ rest, (∃ i, step s = exec i (takeInput rest s)) ∨ step s = .next (busError (takeInput rest s)) := by
  cases hl : s.params.legal with
  | false => exact .inl ⟨_, step_of_illegal hl⟩
  | true =>
    cases hi : s.input with
    | nil => exact .inl ⟨_, step_of_no_input hl hi⟩
    | cons o rest =>
      cases hd : decode o with
      | instr i => exact .inr ⟨rest, .inl ⟨i, step_of_instr hl hi hd⟩⟩
      | hostAccessError => exact .inr ⟨rest, .inr (step_of_hostAccessError hl hi hd)⟩
      | reservedClass => exact .inl ⟨_, step_of_reservedClass hl hi hd⟩
      | reservedEventBits => exact .inl ⟨_, step_of_reservedEventBits hl hi hd⟩

/-! ## How the fill level moves -/

/-- A store raises the fill level by one (R36). -/
theorem avail_storeCode (hl : s.params.legal = true) (hf : s.isFull = false) (c : Code) :
    (storeCode c s).avail = s.avail + 1 := by
  have hne : s.avail ≠ s.params.cap - 1 := fun e => by simp [(State.isFull_iff_avail hl).mpr e] at hf
  have hw := State.wr_lt hl
  have hr := State.rd_lt hl
  have hwr : (storeCode c s).wr.toNat = (s.wr.toNat + 1) % s.params.cap := by
    rw [State.wr_of_next (t := storeCode c s) hl rfl rfl, Params.nextIdx_toNat hl]
  have hrd : (storeCode c s).rd = s.rd := rfl
  rw [State.avail_eq hl] at hne ⊢
  rw [State.avail_eq (s := storeCode c s) hl, hwr, hrd, storeCode_params, Params.succ_mod_cap hw]
  split at hne <;> split <;> split <;> omega

/-- A pop lowers the fill level by one (R36). -/
theorem avail_advanceRead (hl : s.params.legal = true) (he : s.isEmpty = false) :
    (advanceRead s).avail + 1 = s.avail := by
  have hne : s.avail ≠ 0 := fun e => by simp [(State.isEmpty_iff_avail hl).mpr e] at he
  have hw := State.wr_lt hl
  have hr := State.rd_lt hl
  have hrd : (advanceRead s).rd.toNat = (s.rd.toNat + 1) % s.params.cap := by
    rw [State.rd_of_next (t := advanceRead s) hl rfl rfl, Params.nextIdx_toNat hl]
  have hwr : (advanceRead s).wr = s.wr := rfl
  rw [State.avail_eq hl] at hne ⊢
  rw [State.avail_eq (s := advanceRead s) hl, hwr, hrd, advanceRead_params, Params.succ_mod_cap hr]
  split at hne <;> split <;> split <;> omega

/-- A push raises the fill level where it stores, and nowhere else (R141). -/
theorem avail_pushCode (hl : s.params.legal = true) (c : Code) :
    (pushCode c s).avail = if s.abort || s.isFull then s.avail else s.avail + 1 := by
  rcases pushCode_cases c s with ⟨ha, e⟩ | ⟨ha, hf, e⟩ | ⟨ha, hf, e⟩
  · rw [e, ha]
    exact State.avail_congr (by simp) (by simp) (by simp)
  · rw [e, ha, hf]
    exact State.avail_congr (by simp) (by simp) (by simp)
  · rw [e, ha, hf]
    calc (advanceBlock (storeCode c (countSample s))).avail
        = (storeCode c (countSample s)).avail := State.avail_congr (by simp) (by simp) (by simp)
      _ = s.avail + 1 := avail_storeCode (s := countSample s) hl hf c

/-- The low nibble of a frame's last byte is zero (R121). -/
theorem frameOf_low_nibble (p : Params) (c : Code) : (frameOf p c).b2.extractLsb' 0 4 = 0#4 := by
  have hnib : ∀ x : BitVec 4, (x ++ 0b0000#4).extractLsb' 0 4 = 0#4 := by decide
  exact hnib _

/-! ## The invariant, one update at a time

Where an update touches no element the invariant speaks of, its fields carry over as they stand. -/

namespace State.Inv

theorem respond (h : s.Inv) (r : Response) : (respond r s).Inv := { h with }
theorem takeInput (h : s.Inv) (rest : List InputOp) : (takeInput rest s).Inv := { h with }
theorem countSample (h : s.Inv) : (countSample s).Inv := { h with }
theorem dropCode (h : s.Inv) (why : Cause) : (dropCode why s).Inv := { h with }
theorem recordUnderrun (h : s.Inv) (why : Cause) : (recordUnderrun why s).Inv := { h with }
theorem emit (h : s.Inv) (b : Byte) : (emit b s).Inv := { h with }
theorem countXferError (h : s.Inv) : (countXferError s).Inv := { h with }
theorem setRie (h : s.Inv) (v : Bool) : (setRie v s).Inv := { h with }

/-- The block framing may take any position inside the block, and the latch is clear at the boundary (R39, R40). -/
theorem withBlock (h : s.Inv) {b : Index} {a : Bool} (hb : b.toNat < s.params.blockSize)
    (ha : a = true → b ≠ 0#16) : ({ s with blkpos := b, abort := a } : State).Inv :=
  { h with blkpos_lt := hb, abort_inside := ha }

theorem blockSize_pos (h : s.Inv) : 0 < s.params.blockSize := Nat.zero_lt_of_lt h.blkpos_lt

theorem syncBlock (h : s.Inv) : (syncBlock s).Inv := h.withBlock h.blockSize_pos (by simp)

/-- The end of a push keeps the invariant whatever the push did to the latch (R39, R40). -/
theorem advanceBlock_withAbort (h : s.Inv) (a : Bool) : (advanceBlock { s with abort := a }).Inv := by
  have hlt := h.blkpos_lt
  have hsz : s.params.blockSize ≤ s.params.cap - 1 := ((s.params.legal_iff.mp h.legal).2.1).2
  have hcap := Params.cap_bounds h.legal
  have hsucc : (s.blkpos + 1#16).toNat = s.blkpos.toNat + 1 := by
    rw [BitVec.toNat_add, BitVec.toNat_ofNat]
    omega
  unfold advanceBlock
  split
  · exact h.withBlock h.blockSize_pos (by simp)
  · next hne =>
    refine h.withBlock ?_ fun _ hz => ?_
    · simp only [hsucc] at hne ⊢
      omega
    · simp [hz] at hsucc

theorem advanceBlock (h : s.Inv) : (advanceBlock s).Inv := h.advanceBlock_withAbort s.abort

/-- A store into a ring that is not full keeps the ring and its window (R34, R55). -/
theorem storeCode (h : s.Inv) (hf : s.isFull = false) (c : Code) : (storeCode c s).Inv :=
  { h with
    widx_lt := by
      rw [storeCode_widx, storeCode_params, Params.nextIdx_toNat h.legal]
      exact Nat.mod_lt _ (Nat.zero_lt_of_lt h.widx_lt)
    mem_wf := Memory.wf_write h.mem_wf _ _
    mem_slots := by
      intro x hx
      rcases Memory.mem_write hx with rfl | hx
      · exact State.wr_lt h.legal
      · exact h.mem_slots x hx
    live_written := by
      intro j hj
      rw [avail_storeCode h.legal hf] at hj
      rw [storeCode_mem, State.slot_congr (t := Machine.storeCode c s) (s := s) rfl rfl, Memory.read_write]
      split
      · rfl
      · next hne =>
        refine h.live_written j (lt_of_le_of_ne (Nat.le_of_lt_succ hj) ?_)
        rintro rfl
        exact hne (State.slot_avail h.legal).symm }

/-- A pop from a ring that is not empty keeps the window (R35, R55). -/
theorem advanceRead (h : s.Inv) (he : s.isEmpty = false) : (advanceRead s).Inv :=
  { h with
    ridx_lt := by
      rw [advanceRead_ridx, advanceRead_params, Params.nextIdx_toNat h.legal]
      exact Nat.mod_lt _ (Nat.zero_lt_of_lt h.ridx_lt)
    live_written := by
      intro j hj
      have hlt := State.avail_lt h.legal
      have hav := avail_advanceRead h.legal he
      rw [State.slot_of_pop (t := Machine.advanceRead s) h.legal rfl rfl (by omega)]
      exact h.live_written (j + 1) (by omega) }

/-- A frame just issued has its command byte, a zero low nibble and its first byte to go (R121, R221). -/
theorem issueFrame (h : s.Inv) (c : Code) : (issueFrame c s).Inv :=
  { h with
    busy_fpos := by simp
    idle_fpos := by simp
    busy_frame := fun _ => ⟨rfl, frameOf_low_nibble _ _⟩ }

/-- Without a frame in transfer, `FPOS` is 0 (R221). -/
theorem endTransfer (h : s.Inv) : (endTransfer s).Inv :=
  { h with busy_fpos := by simp, idle_fpos := by simp, busy_frame := by simp }

/-- A byte before the last leaves `FPOS` within the frame (R221). -/
theorem advanceByte (h : s.Inv) (hb : s.busy = true) (hp : s.fpos ≠ 2#2) : (advanceByte s).Inv :=
  { h with
    busy_fpos := fun _ => by
      rw [advanceByte_fpos]
      revert hp
      generalize s.fpos = p
      revert p
      decide
    idle_fpos := by simp [hb] }

theorem failTransfer (h : s.Inv) : (failTransfer s).Inv := by
  unfold Machine.failTransfer
  split
  · exact h.countXferError.endTransfer
  · exact h.countXferError

/-! ### The timer -/

theorem periodWord_toNat (h : s.Inv) : s.params.periodWord.toNat = s.params.period ∧ 1 ≤ s.params.period := by
  obtain ⟨-, -, -, ⟨h1, h2⟩, -⟩ := s.params.legal_iff.mp h.legal
  refine ⟨?_, h1⟩
  rw [Params.periodWord, BitVec.toNat_ofNat]
  omega

/-- Arming an Idle timer puts `ALARM` one `PERIOD` ahead of `TIME` (R181, R194). -/
theorem armTimer (h : s.Inv) : (armTimer s).Inv := by
  unfold Machine.armTimer
  split
  · exact h
  · obtain ⟨hp, h1⟩ := h.periodWord_toNat
    exact { h with
      idle_alarm := by simp
      armed_alarm := fun _ => by
        have hd : s.time + s.params.periodWord - s.time = s.params.periodWord := by
          rw [BitVec.add_comm, BitVec.add_sub_cancel]
        simp only [hd, hp]
        omega }

/-- A TICK without a firing brings an armed timer one tick nearer to its `ALARM` (R194). -/
theorem advanceTime (h : s.Inv) (hf : (advanceTime s).firesNow = false) : (advanceTime s).Inv :=
  { h with
    armed_alarm := fun ha => by
      obtain ⟨h1, h2⟩ := h.armed_alarm ha
      have hne : s.time + 1#32 ≠ s.alarm := by
        simpa [State.firesNow, show s.armed = true from ha] using hf
      have hd : (s.alarm - (s.time + 1#32)).toNat = (s.alarm - s.time).toNat - 1 := by bv_omega
      have hz : (s.alarm - s.time).toNat ≠ 1 := by bv_omega
      simp only [advanceTime_alarm, advanceTime_time, advanceTime_params, hd]
      omega }

/-- A firing leaves `TPEND` 0 and `ALARM` one `PERIOD` ahead of `TIME` (R185, R190, R194). -/
theorem rearm (h : s.Inv) (hf : (Machine.advanceTime s).firesNow = true) :
    (rearm (clearPending (setPending (Machine.advanceTime s)))).Inv := by
  obtain ⟨ha, ht⟩ : s.armed = true ∧ s.time + 1#32 = s.alarm := by simpa [State.firesNow] using hf
  obtain ⟨hp, h1⟩ := h.periodWord_toNat
  exact { h with
    tpend_clear := rfl
    idle_alarm := by simp [ha]
    armed_alarm := fun _ => by
      have hd : s.alarm + s.params.periodWord - (s.time + 1#32) = s.params.periodWord := by
        rw [ht, BitVec.add_comm, BitVec.add_sub_cancel]
      simp only [rearm_alarm, rearm_time, rearm_params, clearPending_alarm, clearPending_time, clearPending_params,
        setPending_alarm, setPending_time, setPending_params, advanceTime_alarm, advanceTime_time, advanceTime_params,
        hd, hp]
      omega }

/-! ### Control and reset -/

theorem writeCtrl (h : s.Inv) (w : Word) : (writeCtrl w s).Inv := by
  unfold Machine.writeCtrl
  cases ctrlArm w <;> cases ctrlBsync w
  · exact h.setRie _
  · exact (h.setRie _).syncBlock
  · exact h.armTimer.setRie _
  · exact (h.armTimer.setRie _).syncBlock

end State.Inv

/-- The reset state of a legal parameter set meets the invariant, with an empty window (R32, R360). -/
theorem resetBlock_inv (hl : s.params.legal = true) : (resetBlock s).Inv := by
  have hcap := Params.cap_bounds hl
  obtain ⟨-, ⟨hb, -⟩, -⟩ := s.params.legal_iff.mp hl
  have hempty : (resetBlock s).avail = 0 :=
    (State.isEmpty_iff_avail (s := resetBlock s) hl).mp (by simp [State.isEmpty, State.rd, State.wr])
  exact {
    legal := hl
    widx_lt := by simp; omega
    ridx_lt := by simp; omega
    blkpos_lt := hb
    abort_inside := by simp
    tpend_clear := rfl
    busy_fpos := by simp
    idle_fpos := by simp
    busy_frame := by simp
    mem_wf := List.Pairwise.nil
    mem_slots := by simp
    live_written := by simp [hempty]
    idle_alarm := by simp
    armed_alarm := by simp }

/-- Every operation keeps the invariant. -/
theorem Effect.inv (e : Effect s i t) (h : s.Inv) : t.Inv := by
  cases e with
  | pushAborted hp ha => exact (h.countSample.dropCode _).advanceBlock.respond _
  | pushFull hp ha hf => exact ((h.countSample.dropCode _).advanceBlock_withAbort true).respond _
  | pushStored hp ha hf => exact (h.countSample.storeCode hf _).advanceBlock.respond _
  | tickQuiet hf => exact (h.advanceTime hf).respond _
  | tickBusy hf hb => exact ((h.recordUnderrun _).rearm hf).respond _
  | tickEmpty hf hb he => exact ((h.recordUnderrun _).rearm hf).respond _
  | tickPop hf hb he hm => exact (((h.advanceRead he).issueFrame _).rearm hf).respond _
  | treqIdle hb => exact h.respond _
  | treqLast hb hp => exact (h.emit _).endTransfer.respond _
  | treqByte hb hp => exact ((h.emit _).advanceByte hb hp).respond _
  | nack => exact h.failTransfer.respond _
  | wrCtrl w => exact (h.writeCtrl w).respond _
  | reset => exact (resetBlock_inv h.legal).respond _
  | read hh hp hw r => exact h.respond r

/-- An operation that faults starts outside the invariant: the slot a firing pops is written (R55), and `FPOS` is
within the frame (R221). -/
theorem State.Inv.exec_ne_fault (h : s.Inv) (i : Instr) (f : Fault) : exec i s ≠ .fault f := by
  intro hx
  rcases exec_fault hx with rfl | rfl
  · obtain ⟨-, -, he, hm⟩ := execTick_fault hx
    have hpos : s.avail ≠ 0 := fun e => by simp [(State.isEmpty_iff_avail h.legal).mpr e] at he
    have hw := h.live_written 0 (Nat.pos_of_ne_zero hpos)
    simp [State.slot_zero h.legal, hm] at hw
  · obtain ⟨-, hb, hp⟩ := execTreq_fault hx
    exact h.busy_fpos hb hp

/-! ## What the host sees of the ring -/

section Level

variable {u : State} (hl : s.params.legal = true) (hp : u.params = s.params) (ha : u.avail = s.avail)

include hp ha

theorem State.refillReq_congr : u.refillReq = s.refillReq := by
  rw [State.refillReq, State.refillReq, State.free, State.free, hp, ha]

theorem State.irq_congr (hr : u.rie = s.rie) : u.irq = s.irq := by
  simp only [State.irq, State.refillReq_congr hp ha, hr]

/-- Two states with the same parameters, fill level and `RIE` show the same levels, whatever they answer. -/
theorem levels_congr (hr : u.rie = s.rie) (r : Response) :
    (respond r u).resp = (respond r s).resp ∧ (respond r u).refillReq = (respond r s).refillReq ∧
    (respond r u).irq = (respond r s).irq :=
  ⟨rfl, State.refillReq_congr hp ha, State.irq_congr hp ha hr⟩

omit hp in
theorem State.availWord_congr : u.availWord = s.availWord := by
  rw [State.availWord, State.availWord, BitVec.eq_of_toNat_eq ha]

theorem State.freeWord_congr : u.freeWord = s.freeWord := by
  rw [State.freeWord, State.freeWord, BitVec.eq_of_toNat_eq ha, hp]

include hl

/-- Full is a matter of the fill level (R38). -/
theorem State.isFull_congr : u.isFull = s.isFull := by
  rw [Bool.eq_iff_iff, State.isFull_iff_avail hl, State.isFull_iff_avail (hp ▸ hl), hp, ha]

/-- Empty is a matter of the fill level (R38). -/
theorem State.isEmpty_congr : u.isEmpty = s.isEmpty := by
  rw [Bool.eq_iff_iff, State.isEmpty_iff_avail hl, State.isEmpty_iff_avail (hp ▸ hl), ha]

/-- The fill level after a push is a matter of the latch and the fill level before it (R141). -/
theorem avail_pushCode_congr (hb : u.abort = s.abort) (c : Code) : (pushCode c u).avail = (pushCode c s).avail := by
  rw [avail_pushCode hl, avail_pushCode (hp ▸ hl), State.isFull_congr hl hp ha, hb, ha]

end Level

/-- `STATUS` shows of the ring only its fill level (R282). -/
theorem State.statusWord_withRing {m : Memory} {wi ri : Index} (hl : s.params.legal = true)
    (ha : ({ s with mem := m, widx := wi, ridx := ri } : State).avail = s.avail) :
    ({ s with mem := m, widx := wi, ridx := ri } : State).statusWord = s.statusWord := by
  unfold State.statusWord
  rw [State.irq_congr (s := s) (by rfl) ha (by rfl), State.refillReq_congr (s := s) (by rfl) ha,
    State.isFull_congr (s := s) hl (by rfl) ha, State.isEmpty_congr (s := s) hl (by rfl) ha]

/-- A write of `CTRL` leaves the fill level alone (R287). -/
theorem avail_writeCtrl (w : Word) (s : State) : (writeCtrl w s).avail = s.avail := by
  rw [writeCtrl_eq]
  rfl

/-- A push leaves the parameters and `RIE` alone (R32). -/
theorem pushCode_params_rie (c : Code) (s : State) :
    (pushCode c s).params = s.params ∧ (pushCode c s).rie = s.rie := by
  rcases pushCode_cases c s with ⟨-, e⟩ | ⟨-, -, e⟩ | ⟨-, -, e⟩ <;> simp [e]

/-! ## The statements -/

/-- Settles O15: an operation keeps the invariant by the branch it takes, and a bus error changes only the response. -/
theorem stepKeepsInvariant : Obligations.StepKeepsInvariant := by
  intro s t h hs
  rcases step_cases s with ⟨r, e⟩ | ⟨rest, ⟨i, e⟩ | e⟩
  · rw [e] at hs
    cases hs
  · exact (effect_of_exec (e.symm.trans hs)).inv (h.takeInput rest)
  · rw [e, Host.Outcome.next.injEq] at hs
    exact hs ▸ (h.takeInput rest).respond .busError

/-- Settles O16: of the things a step can be only an operation could fault, and the invariant excludes that. -/
theorem invariantStatesNeverFault : Obligations.InvariantStatesNeverFault := by
  intro s f h hs
  rcases step_cases s with ⟨r, e⟩ | ⟨rest, ⟨i, e⟩ | e⟩
  · rw [e] at hs
    cases hs
  · exact (h.takeInput rest).exec_ne_fault i f (e.symm.trans hs)
  · rw [e] at hs
    cases hs

/-- Settles O32: beside RESET only a write of `CTRL` touches `ARMED`, and it only sets it (R181, R288). -/
theorem onlyResetDisarms : Obligations.OnlyResetDisarms := by
  intro i s t h
  cases effect_of_exec h with
  | wrCtrl w =>
    simp only [respond_armed, writeCtrl_eq, Bool.or_eq_true, Bool.or_eq_false_iff]
    refine ⟨fun h1 ⟨_, h2⟩ => absurd h1 (by simp [h2]), fun h1 h2 => ⟨w, rfl, ?_⟩⟩
    exact h2.resolve_right (by simp [h1])
  | reset => simp
  | nack => simp +contextual [failTransfer_eq]
  | _ => simp +contextual

/-- Settles O45: by the branch the operation takes; the branches that record a cause count its event. -/
theorem eventsRecordTheirCause : Obligations.EventsRecordTheirCause := by
  intro i s t h
  cases effect_of_exec h with
  | pushAborted hp ha | pushFull hp ha _ | pushStored hp ha _ =>
    obtain ⟨-, -, -, hr⟩ := isHostOp_ne_event (isHostOp_of_pushedCode hp)
    simp [isPush_of_pushedCode hp, ha, hr]
  | tickBusy hf hb => simp [hb]
  | tickEmpty hf hb he => simp [hb]
  | nack => simp [failTransfer_eq]
  | wrCtrl w => simp [writeCtrl_eq]
  | read hh hp hw r =>
    obtain ⟨-, -, -, hr⟩ := isHostOp_ne_event hh
    simp [hr]
  | _ => simp

/-- Settles O46: by the branch the operation takes. -/
theorem countersCountTheirEvents : Obligations.CountersCountTheirEvents := by
  intro i s t hi h
  cases effect_of_exec h with
  | pushAborted hp ha =>
    obtain ⟨ht, -, hn, -⟩ := isHostOp_ne_event (isHostOp_of_pushedCode hp)
    simp [isPush_of_pushedCode hp, firesOn_of_ne_tick ht, hn, ha]
  | pushFull hp ha hf | pushStored hp ha hf =>
    obtain ⟨ht, -, hn, -⟩ := isHostOp_ne_event (isHostOp_of_pushedCode hp)
    simp [isPush_of_pushedCode hp, firesOn_of_ne_tick ht, hn, ha, hf]
  | tickQuiet hf => simp [hf]
  | tickBusy hf hb => simp [hf, hb]
  | tickEmpty hf hb he | tickPop hf hb he _ => simp [hf, hb, he]
  | nack => simp [failTransfer_eq, firesOn, isPush, pushedCode]
  | wrCtrl w => simp [writeCtrl_eq, firesOn, isPush, pushedCode]
  | reset => exact absurd rfl hi
  | read hh hp hw r =>
    obtain ⟨ht, -, hn, -⟩ := isHostOp_ne_event hh
    simp [hp, firesOn_of_ne_tick ht, hn]
  | _ => simp [firesOn, isPush, pushedCode]

/-- Settles O48: by the branch the operation takes, each of which writes only the elements it names. -/
theorem everyElementHasItsWriters : Obligations.EveryElementHasItsWriters := by
  intro i s t h hi
  cases effect_of_exec h with
  | pushAborted hp _ | pushFull hp _ _ | pushStored hp _ _ => simp [isPush_of_pushedCode hp]
  | nack => simp [failTransfer_eq]
  | wrCtrl w =>
    simp +contextual only [writeCtrl_eq, isBsync, ctrlArm]
    simp +contextual [or_iff_not_imp_left]
  | reset => exact absurd rfl hi
  | _ => simp

/-- Settles O50: every host operation answers by the fill level or by elements the two states share, and leaves them
with the same fill level. -/
theorem hostSeesIndicesOnlyThroughAvail : Obligations.HostSeesIndicesOnlyThroughAvail := by
  intro i s t t' m wi ri hl hh ha h h'
  cases hp : pushedCode i with
  | some c =>
    rw [exec_push_eq hp, Host.Outcome.next.injEq] at h h'
    subst h h'
    obtain ⟨hps, hrs⟩ := pushCode_params_rie c s
    obtain ⟨hpu, hru⟩ := pushCode_params_rie c { s with mem := m, widx := wi, ridx := ri }
    exact levels_congr (hpu.trans hps.symm) (avail_pushCode_congr hl (by rfl) ha (by rfl) c) (hru.trans hrs.symm) _
  | none =>
    obtain ⟨htick, htreq, hnack, hreset⟩ := isHostOp_ne_event hh
    have hread := levels_congr (s := s) (by rfl) ha (by rfl)
    cases i with
    | push w => cases hp
    | pushf w => cases hp
    | tick => exact absurd rfl htick
    | treq => exact absurd rfl htreq
    | nack => exact absurd rfl hnack
    | reset => exact absurd rfl hreset
    | wrCtrl w =>
      cases h
      cases h'
      refine levels_congr (by simp [writeCtrl_eq]) ?_ (by simp [writeCtrl_eq]) _
      rw [avail_writeCtrl, avail_writeCtrl, ha]
    | rdAvail =>
      cases h
      cases h'
      rw [State.availWord_congr ha]
      exact hread _
    | rdFree =>
      cases h
      cases h'
      rw [State.freeWord_congr (by rfl) ha]
      exact hread _
    | rdStatus =>
      cases h
      cases h'
      rw [State.statusWord_withRing hl ha]
      exact hread _
    | _ =>
      cases h
      cases h'
      exact hread _

/-- Settles O29: with no frame in transfer and the ring not empty, a firing that completes has read the slot. -/
theorem unwrittenSlotPopFaults : Obligations.UnwrittenSlotPopFaults := by
  intro s ha ht hb hne hm
  have hf : (advanceTime s).firesNow = true := by simp [State.firesNow, ha, ht]
  have he : s.isEmpty = false := by simpa [State.isEmpty] using hne
  cases hx : exec .tick s with
  | next t =>
    rcases execTick_cases hx with ⟨hf', -⟩ | ⟨-, hb', -⟩ | ⟨-, -, he', -⟩ | ⟨-, -, -, c, hm', -⟩
    · simp [hf] at hf'
    · simp [hb] at hb'
    · simp [he] at he'
    · simp [hm] at hm'
  | fault f => rw [(execTick_fault hx).1]
  | refused r => exact absurd hx (execTick_not_refused r)

/-- Settles O34: `FRAME` has no element 3, so no TREQ that completes hands over a byte. -/
theorem frameIndexThreeFaults : Obligations.FrameIndexThreeFaults := by
  intro s hb hp
  cases hx : exec .treq s with
  | next t =>
    rcases execTreq_cases hx with ⟨hb', -⟩ | ⟨b, -, hat, -⟩
    · simp [hb] at hb'
    · simp [(Frame.at?_eq_none _ _).mpr hp] at hat
  | fault f => rw [(execTreq_fault hx).1]
  | refused r => exact absurd hx (execTreq_not_refused r)

end Sys2Proof.Machine
end

section
/-! SUPPORT. Proofs for 20_memory.md: the word an operation is decoded from (R104), that no operation sees the pending
inputs (R80), that an input some agent issues is always performed (R81), that the fill level only falls between pushes
(R88), and the statements of that file. -/

namespace Sys2Proof

/-! ## The word an operation is decoded from -/

/-- A word is its three fields (R101). -/
theorem Opw.eq_fields (w : Opw) : w = Opw.cls w ++ Opw.szEv w ++ Opw.offZ w := by
  unfold Opw.cls Opw.szEv Opw.offZ
  rw [BitVec.extractLsb'_append_extractLsb'_eq_extractLsb' (by rfl : 10 = 8 + 2),
    BitVec.extractLsb'_append_extractLsb'_eq_extractLsb' (by rfl : 8 = 0 + 8)]
  exact BitVec.extractLsb'_eq_self.symm

/-- The register at an offset is the one that has it (R71). -/
theorem HostReg.atOffset_eq_some_iff (off : BitVec 8) (r : HostReg) :
    HostReg.atOffset off = some r ↔ off = r.offset := by
  constructor
  · intro h
    have hr : (r.offset == off) = true := List.find?_some (p := fun r : HostReg => r.offset == off) h
    exact (beq_iff_eq.mp hr).symm
  · rintro rfl
    cases r <;> rfl

/-- The host reads that are operations: word accesses to readable registers (R72, R105). -/
theorem decodeRead_eq_instr_iff (w : Opw) (i : Instr) :
    decodeRead w = .instr i ↔
      Opw.szEv w = 0b10#2 ∧ ∃ r : HostReg, Opw.offZ w = r.offset ∧ r.readInstr = some i := by
  unfold decodeRead
  split
  · next hs =>
    simp only [hs, true_and, ← HostReg.atOffset_eq_some_iff, ← Option.bind_eq_some_iff]
    split <;> next hr => simp [hr]
  · next hs => simp [hs]

/-- The host writes that are operations: word accesses to writable registers (R72, R105). -/
theorem decodeWrite_eq_instr_iff (w : Opw) (wdata : Word) (i : Instr) :
    decodeWrite w wdata = .instr i ↔
      Opw.szEv w = 0b10#2 ∧ ∃ r : HostReg, Opw.offZ w = r.offset ∧ r.writeInstr wdata = some i := by
  unfold decodeWrite
  split
  · next hs =>
    simp only [hs, true_and, ← HostReg.atOffset_eq_some_iff, ← Option.bind_eq_some_iff]
    split <;> next hr => simp [hr]
  · next hs => simp [hs]

/-- The rows of R104 that are host reads, by their register. -/
theorem HostReg.opw_of_readInstr {r : HostReg} {i : Instr} (h : r.readInstr = some i) :
    i.opw = 0b00#2 ++ 0b10#2 ++ r.offset := by
  cases r <;> cases h <;> rfl

/-- The rows of R104 that are host writes, by their register. -/
theorem HostReg.opw_of_writeInstr {r : HostReg} {wdata : Word} {i : Instr} (h : r.writeInstr wdata = some i) :
    i.opw = 0b01#2 ++ 0b10#2 ++ r.offset := by
  cases r <;> cases h <;> rfl

/-- A host word that decodes to an operation is that operation's row of R104. -/
theorem opw_of_decode_host {o : InputOp} {i : Instr} (hc : Opw.cls o.opw = 0b00#2 ∨ Opw.cls o.opw = 0b01#2)
    (h : decode o = .instr i) : o.opw = i.opw := by
  rw [Opw.eq_fields o.opw]
  rcases hc with hc | hc
  · have hd : decodeRead o.opw = .instr i := by simpa [decode, hc] using h
    obtain ⟨hs, r, hr, hi⟩ := (decodeRead_eq_instr_iff _ _).mp hd
    rw [HostReg.opw_of_readInstr hi, hc, hs, hr]
  · have hd : decodeWrite o.opw o.wdata = .instr i := by simpa [decode, hc] using h
    obtain ⟨hs, r, hr, hi⟩ := (decodeWrite_eq_instr_iff _ _ _).mp hd
    rw [HostReg.opw_of_writeInstr hi, hc, hs, hr]

/-- A host word is an operation or lies outside the map (R105, R111). -/
theorem decode_host_cases {o : InputOp} (hc : Opw.cls o.opw = 0b00#2 ∨ Opw.cls o.opw = 0b01#2) :
    (∃ i, decode o = .instr i) ∨ decode o = .hostAccessError := by
  rcases hc with hc | hc
  · simpa [decode, hc] using decodeRead_cases o.opw
  · simpa [decode, hc] using decodeWrite_cases o.opw o.wdata

/-- A word some agent issues is an operation or a host access outside the map (R102, R112). -/
theorem decode_of_agent {o : InputOp} (ha : o.agent ≠ none) :
    (∃ i, decode o = .instr i) ∨ decode o = .hostAccessError := by
  cases hd : decode o with
  | instr i => exact .inl ⟨i, rfl⟩
  | hostAccessError => exact .inr rfl
  | reservedClass =>
    have hc := (decode_eq_reservedClass_iff o).mp hd
    exact absurd (by simp [InputOp.agent, hc]) ha
  | reservedEventBits =>
    obtain ⟨hc, hz⟩ := (decode_eq_reservedEventBits_iff o).mp hd
    exact absurd (by simp [InputOp.agent, hc, hz]) ha

/-- The word of a writable register, with any write data, decodes to that register's write (R105). -/
theorem decode_of_writeInstr {w : Opw} {wdata : Word} {r : HostReg} {i : Instr} (hc : Opw.cls w = 0b01#2)
    (hs : Opw.szEv w = 0b10#2) (hr : Opw.offZ w = r.offset) (hi : r.writeInstr wdata = some i) :
    decode ⟨w, wdata⟩ = .instr i := by
  have hd := (decodeWrite_eq_instr_iff w wdata i).mpr ⟨hs, r, hr, hi⟩
  simpa [decode, hc] using hd

/-- The encoding of an operation decodes to it (R104, R105). -/
theorem decode_encode (i : Instr) : decode (encode i) = .instr i := by
  cases i with
  | push w => exact decode_of_writeInstr (w := 0x600#12) (r := .data) rfl rfl rfl rfl
  | pushf w => exact decode_of_writeInstr (w := 0x604#12) (r := .sample) rfl rfl rfl rfl
  | wrCtrl w => exact decode_of_writeInstr (w := 0x614#12) (r := .ctrl) rfl rfl rfl rfl
  | _ => rfl

end Sys2Proof

namespace Sys2Proof.Machine

variable {s t : State} {i : Instr}

/-! ## No operation sees the pending inputs (log entry 3) -/

section TakeInput

variable (q : List InputOp) (s : State)

theorem offerCode_takeInput (c : Code) : offerCode c (takeInput q s) = takeInput q (offerCode c s) := by
  simp only [offerCode, apply_ite (takeInput q)]
  rfl

theorem advanceBlock_takeInput : advanceBlock (takeInput q s) = takeInput q (advanceBlock s) := by
  rw [advanceBlock, advanceBlock, apply_ite (takeInput q)]
  rfl

/-- A push does to a state what it does whatever is pending. -/
theorem pushCode_takeInput (c : Code) : pushCode c (takeInput q s) = takeInput q (pushCode c s) := by
  rw [pushCode, pushCode, ← advanceBlock_takeInput, ← offerCode_takeInput]
  rfl

/-- The dispatch's steps 2 to 4 are the same whatever is pending. -/
theorem serve_takeInput : serve (takeInput q s) = onNext (takeInput q) (serve s) := by
  have hpop : pop (takeInput q s) = (pop s).map fun x => (x.1, takeInput q x.2) := by
    rw [pop, pop, Option.map_map]
    rfl
  rw [serve, serve, hpop, apply_ite (onNext (takeInput q)), apply_ite (onNext (takeInput q))]
  cases pop s <;> rfl

/-- A TICK is the same whatever is pending. -/
theorem tickTimer_takeInput : tickTimer (takeInput q s) = onNext (takeInput q) (tickTimer s) := by
  have hdispatch (s : State) : dispatch (takeInput q s) = onNext (takeInput q) (dispatch s) := by
    rw [dispatch, dispatch, show clearPending (takeInput q s) = takeInput q (clearPending s) from rfl,
      serve_takeInput]
    cases serve (clearPending s) <;> rfl
  rw [tickTimer, tickTimer, apply_ite (onNext (takeInput q)), ← hdispatch]
  rfl

/-- A TREQ is the same whatever is pending. -/
theorem sendByte_takeInput : sendByte (takeInput q s) = onNext (takeInput q) (sendByte s) := by
  rw [sendByte, sendByte, apply_ite (onNext (takeInput q)), takeInput_frame, takeInput_fpos]
  cases s.frame.at? s.fpos with
  | none => rfl
  | some b =>
    simp only [apply_ite (onNext (takeInput q))]
    rfl

theorem failTransfer_takeInput : failTransfer (takeInput q s) = takeInput q (failTransfer s) := by
  rw [failTransfer_eq, failTransfer_eq]
  rfl

theorem writeCtrl_takeInput (w : Word) : writeCtrl w (takeInput q s) = takeInput q (writeCtrl w s) := by
  rw [writeCtrl_eq, writeCtrl_eq]
  rfl

/-- No operation sees the pending inputs: with others pending it has the same outcome, with those others pending. -/
theorem exec_takeInput (i : Instr) : exec i (takeInput q s) = onNext (takeInput q) (exec i s) := by
  have hrespond (o : Host.Outcome State Fault Refusal) : onNext (respond .noData) (onNext (takeInput q) o) =
      onNext (takeInput q) (onNext (respond .noData) o) := by cases o <;> rfl
  cases hp : pushedCode i with
  | some c =>
    rw [exec_push_eq hp, exec_push_eq hp, pushCode_takeInput]
    rfl
  | none =>
    cases i with
    | push w => cases hp
    | pushf w => cases hp
    | tick =>
      change onNext _ (tickTimer _) = onNext _ (onNext _ (tickTimer s))
      rw [tickTimer_takeInput, hrespond]
    | treq =>
      change onNext _ (sendByte _) = onNext _ (onNext _ (sendByte s))
      rw [sendByte_takeInput, hrespond]
    | nack => exact congrArg (fun u => Host.Outcome.next (respond .noData u)) (failTransfer_takeInput q s)
    | wrCtrl w => exact congrArg (fun u => Host.Outcome.next (respond .noData u)) (writeCtrl_takeInput q s w)
    | _ => rfl

end TakeInput

/-! ## Runs of the pending list -/

/-- A run goes on from where its first step leads. -/
theorem core_run_succ (k : Nat) (h : step s = .next t) :
    Host.Core.run core (k + 1) s = Host.Core.run core k t := by
  simp only [Host.Core.run]
  rw [show core.step s = .next t from h]

/-- The encodings of operations, put in front of the pending inputs, run as the operations do one after the other
(R80). -/
theorem run_encoded (ops : List Instr) (rest : List InputOp) (s : State) (hl : s.params.legal = true) :
    Host.Core.run core ops.length (takeInput (ops.map encode ++ rest) s) = execAll ops (takeInput rest s) := by
  induction ops generalizing s with
  | nil => rfl
  | cons i is ih =>
    have hstep : core.step (takeInput ((i :: is).map encode ++ rest) s) =
        onNext (takeInput (is.map encode ++ rest)) (exec i s) := by
      rw [← exec_takeInput]
      exact step_of_instr (s := takeInput ((i :: is).map encode ++ rest) s) hl rfl (decode_encode i)
    simp only [List.length_cons, Host.Core.run, execAll, exec_takeInput]
    rw [hstep]
    cases hx : exec i s with
    | next t => exact ih t (by rw [(exec_params_input hx).1, hl])
    | fault f => rfl
    | refused r => rfl

/-- From a state that meets the invariant, an input that some agent issues is performed (R81, R112). -/
theorem State.Inv.step_of_agent {o : InputOp} {rest : List InputOp} (h : s.Inv) (hi : s.input = o :: rest)
    (ha : o.agent ≠ none) : ∃ t, step s = .next t ∧ t.Inv ∧ t.input = rest := by
  have hrest := h.takeInput rest
  rcases decode_of_agent ha with ⟨i, hd⟩ | hd
  · rw [step_of_instr h.legal hi hd]
    cases hx : exec i (Machine.takeInput rest s) with
    | next t => exact ⟨t, rfl, (effect_of_exec hx).inv hrest, (exec_params_input hx).2⟩
    | fault f => exact absurd hx (hrest.exec_ne_fault i f)
    | refused r => exact absurd hx (exec_not_refused i _ r)
  · exact ⟨_, step_of_hostAccessError h.legal hi hd, hrest.respond .busError, rfl⟩

/-- From a state that meets the invariant, inputs that agents issue are performed to their end (R81). -/
theorem State.Inv.run_of_agents {q rest : List InputOp} (h : s.Inv) (hi : s.input = q ++ rest)
    (ha : ∀ o ∈ q, o.agent ≠ none) :
    ∃ t, Host.Core.run core q.length s = .next t ∧ t.Inv ∧ t.input = rest := by
  induction q generalizing s with
  | nil => exact ⟨s, rfl, h, hi⟩
  | cons o q ih =>
    obtain ⟨ho, hq⟩ := List.forall_mem_cons.mp ha
    obtain ⟨u, hu, hinv, hin⟩ := h.step_of_agent hi ho
    rw [List.length_cons, core_run_succ _ hu]
    exact ih hinv hin hq

/-! ## The fill level between pushes -/

/-- A NACK leaves the fill level alone (R225). -/
theorem avail_failTransfer (s : State) : (failTransfer s).avail = s.avail := by
  rw [failTransfer_eq]
  rfl

/-- No operation but a push raises the fill level, RESET apart (R153). -/
theorem avail_le_of_not_push (hl : s.params.legal = true) (hp : isPush i = false) (hr : i ≠ .reset)
    (h : exec i s = .next t) : t.avail ≤ s.avail := by
  cases effect_of_exec h with
  | pushAborted hc _ | pushFull hc _ _ | pushStored hc _ _ =>
    rw [isPush_of_pushedCode hc] at hp
    cases hp
  | tickPop hf hb he hm =>
    have hpop := avail_advanceRead hl he
    calc _ = (advanceRead s).avail := State.avail_congr (by simp) (by simp) (by simp [State.rd])
      _ ≤ s.avail := by omega
  | nack => exact (avail_failTransfer s).le
  | wrCtrl w => exact (avail_writeCtrl w s).le
  | reset => exact absurd rfl hr
  | _ => exact (State.avail_congr (by simp) (by simp) (by simp)).le

/-- Along a run without a push and without RESET the fill level does not grow, and the parameters stay
(R88). -/
theorem avail_le_of_no_push {ops : List Instr} (hl : s.params.legal = true) (hp : ∀ i ∈ ops, isPush i = false)
    (hr : .reset ∉ ops) (h : execAll ops s = .next t) : t.avail ≤ s.avail ∧ t.params = s.params := by
  induction ops generalizing s with
  | nil =>
    cases h
    exact ⟨le_rfl, rfl⟩
  | cons i is ih =>
    obtain ⟨hpi, hps⟩ := List.forall_mem_cons.mp hp
    obtain ⟨hri, hrs⟩ := not_or.mp (List.mem_cons.not.mp hr)
    unfold execAll at h
    cases hx : exec i s with
    | next u =>
      have hu := (exec_params_input hx).1
      obtain ⟨ha, ht⟩ := ih (by rw [hu, hl]) hps hrs (by simpa [hx] using h)
      exact ⟨ha.trans (avail_le_of_not_push hl hpi (Ne.symm hri) hx), ht.trans hu⟩
    | fault f => simp [hx] at h
    | refused r => simp [hx] at h

/-! ## The statements -/

/-- Settles O5: a word that decodes to an operation is a row of R104, and every other host word is a bus error. -/
theorem accessOutsideMapIsBusError : Obligations.AccessOutsideMapIsBusError := by
  intro s o rest hl hi hc hrows
  rcases decode_host_cases hc with ⟨i, hd⟩ | hd
  · have hw : o.opw = i.opw := opw_of_decode_host hc hd
    rw [hw] at hc hrows
    cases i with
    | tick | treq | nack | reset => exact absurd hc (by decide)
    | _ => exact absurd (by simp [Instr.opw]) hrows
  · exact step_of_hostAccessError hl hi hd

/-- Settles O9, by induction on the operations: each one's encoding decodes to it, and it does not see what is
pending. -/
theorem pendingListRunsInOrder : Obligations.PendingListRunsInOrder := by
  intro ops rest s hl
  exact run_encoded ops rest s hl

/-- Settles O10: an interleaving holds only inputs that agents issue, and each of them is performed and keeps the
invariant. -/
theorem everyInterleavingRuns : Obligations.EveryInterleavingRuns := by
  intro q rest streams s h hq
  obtain ⟨hagents, -⟩ := hq
  exact (h.takeInput (q ++ rest)).run_of_agents rfl hagents

/-- Settles O51: between pushes the fill level only falls, and `FREE` is its complement (R37). -/
theorem staleFillLevelsErrSafely : Obligations.StaleFillLevelsErrSafely := by
  intro ops s t hl hp hr h
  obtain ⟨ha, ht⟩ := avail_le_of_no_push hl hp hr h
  refine ⟨ha, ?_⟩
  rw [State.free, State.free, ht]
  omega

end Sys2Proof.Machine
end

section
/-! SUPPORT. Proofs for 30_encoding.md: what an input that decodes to an operation carries (R100, R103, R105), that write
data is looked at in host writes only (log entry 17), what one TREQ does (R222, R223), what a frame carries (R121,
R122), and the statements of that file. -/

namespace Sys2Proof

variable {o : InputOp} {i : Instr}

/-! ## Words read through the opcode table's numbering -/

/-- A table word that holds the encoding of an operation is read as that operation. -/
theorem decodeTableWord_of_encode {nbits w : Nat} (h : InputOp.ofTableWord nbits w = some (encode i)) :
    decodeTableWord nbits w = some i := by
  simp [decodeTableWord, h, decode_encode, Decoded.instr?]

/-- A table word of class `11` is read as no operation (R112). -/
theorem decodeTableWord_of_reservedClass {nbits w : Nat} (h : InputOp.ofTableWord nbits w = some o)
    (hc : Opw.cls o.opw = 0b11#2) : decodeTableWord nbits w = none := by
  simp [decodeTableWord, h, (decode_eq_reservedClass_iff o).mpr hc, Decoded.instr?]

/-! ## What an input that decodes to an operation carries -/

theorem InputOp.carried_of_write (hc : Opw.cls o.opw = 0b01#2) : o.carried = o := if_pos hc

theorem InputOp.carried_of_not_write (hc : Opw.cls o.opw ≠ 0b01#2) : o.carried = ⟨o.opw, 0#32⟩ := if_neg hc

@[simp] theorem InputOp.carried_opw (o : InputOp) : o.carried.opw = o.opw := by
  unfold InputOp.carried
  split <;> rfl

/-- The decoder looks at write data in class `01` only (R100; log entry 17). -/
theorem decode_carried (o : InputOp) : decode o.carried = decode o := by
  by_cases hc : Opw.cls o.opw = 0b01#2
  · rw [InputOp.carried_of_write hc]
  · rw [InputOp.carried_of_not_write hc]
    rcases decode_cases o with ⟨hc', -⟩ | ⟨hc', -⟩ | ⟨hc', -⟩ | ⟨hc', -⟩
    · simp [decode, hc']
    · simp [decode, hc']
    · simp [decode, hc']
    · exact absurd hc' hc

/-- The read of a register has no operand (R103). -/
theorem HostReg.wdata_of_readInstr {r : HostReg} (h : r.readInstr = some i) : i.wdata = 0#32 := by
  cases r <;> cases h <;> rfl

/-- The operand of a register's write is its write data (R103). -/
theorem HostReg.wdata_of_writeInstr {r : HostReg} {wdata : Word} (h : r.writeInstr wdata = some i) :
    i.wdata = wdata := by
  cases r <;> cases h <;> rfl

/-- An event word that decodes to an operation is that operation's row of R104, and an event has no operand (R103). -/
theorem encode_of_decodeEvent {w : Opw} (hc : Opw.cls w = 0b10#2) (h : decodeEvent w = .instr i) :
    encode i = ⟨w, 0#32⟩ := by
  rcases decodeEvent_cases w with ⟨-, e⟩ | ⟨hz, -⟩
  · rw [e] at h
    cases h
  · have hev : ∀ x : BitVec 2, x = 0b00#2 ∨ x = 0b01#2 ∨ x = 0b10#2 ∨ x = 0b11#2 := by decide
    rw [Opw.eq_fields w, hc, hz]
    rcases hev (Opw.szEv w) with hs | hs | hs | hs
    · obtain rfl : .tick = i := by simpa [decodeEvent, hz, hs] using h
      rw [hs]
      rfl
    · obtain rfl : .treq = i := by simpa [decodeEvent, hz, hs] using h
      rw [hs]
      rfl
    · obtain rfl : .nack = i := by simpa [decodeEvent, hz, hs] using h
      rw [hs]
      rfl
    · obtain rfl : .reset = i := by simpa [decodeEvent, hz, hs] using h
      rw [hs]
      rfl

/-- An input that decodes to an operation is that operation's encoding, up to write data that is not looked at
(R104, R105; log entry 17). -/
theorem encode_of_decode (h : decode o = .instr i) : encode i = o.carried := by
  rcases decode_cases o with ⟨-, e⟩ | ⟨hc, e⟩ | ⟨hc, e⟩ | ⟨hc, e⟩
  · rw [e] at h
    cases h
  · rw [InputOp.carried_of_not_write (by simp [hc])]
    exact encode_of_decodeEvent hc (e ▸ h)
  · obtain ⟨-, r, -, hi⟩ := (decodeRead_eq_instr_iff _ _).mp (e ▸ h)
    rw [InputOp.carried_of_not_write (by simp [hc]), encode, opw_of_decode_host (.inl hc) h,
      HostReg.wdata_of_readInstr hi]
  · obtain ⟨-, r, -, hi⟩ := (decodeWrite_eq_instr_iff _ _ _).mp (e ▸ h)
    rw [InputOp.carried_of_write hc, encode, ← opw_of_decode_host (.inr hc) h, HostReg.wdata_of_writeInstr hi]

/-- An input that decodes to an operation has that operation's row of R104 as its word. -/
theorem opw_of_decode (h : decode o = .instr i) : o.opw = i.opw := by
  have he : (encode i).opw = o.carried.opw := congrArg InputOp.opw (encode_of_decode h)
  simpa [encode] using he.symm

/-- The row of a read or an event decodes to it, whatever accompanies the word (R104; log entry 17). -/
theorem decode_of_opw {v : Opw} {w : Word} (hv : i.opw = v) (hc : Opw.cls v ≠ 0b01#2) : decode ⟨v, w⟩ = .instr i := by
  subst hv
  have hcar : InputOp.carried ⟨i.opw, w⟩ = (encode i).carried :=
    (InputOp.carried_of_not_write (o := ⟨i.opw, w⟩) hc).trans (InputOp.carried_of_not_write (o := encode i) hc).symm
  rw [← decode_carried, hcar, decode_carried, decode_encode]

end Sys2Proof

namespace Sys2Proof.Machine

variable {s t : State}

/-! ## One TREQ and a run of them -/

/-- An operation that answers a next state is followed by the rest of its run. -/
theorem execAll_cons_of_next {i : Instr} {is : List Instr} (h : exec i s = .next t) :
    execAll (i :: is) s = execAll is t := by
  simp [execAll, h]

@[simp] theorem Frame.at?_zero (f : Frame) : f.at? 0#2 = some f.b0 := rfl
@[simp] theorem Frame.at?_one (f : Frame) : f.at? 1#2 = some f.b1 := rfl
@[simp] theorem Frame.at?_two (f : Frame) : f.at? 2#2 = some f.b2 := rfl

/-- A TREQ answers a next state but where a frame in transfer has no byte at `FPOS` (R222). -/
theorem exec_treq_completes (hp : s.busy = true → s.fpos ≠ 3#2) : ∃ t, exec .treq s = .next t := by
  cases h : exec .treq s with
  | next t => exact ⟨t, rfl⟩
  | fault f =>
    obtain ⟨-, hb, hp3⟩ := execTreq_fault h
    exact absurd hp3 (hp hb)
  | refused r => exact absurd h (execTreq_not_refused r)

/-- With no frame in transfer a TREQ does nothing (R223). -/
theorem exec_treq_of_idle (hb : s.busy = false) : exec .treq s = .next (respond .noData s) := by
  obtain ⟨t, h⟩ := exec_treq_completes (s := s) (by simp [hb])
  rcases execTreq_cases h with ⟨-, rfl⟩ | ⟨b, hb', -⟩
  · exact h
  · simp [hb] at hb'

/-- Before the last byte of a frame in transfer, a TREQ hands over `FRAME[FPOS]` and advances `FPOS` (R222). -/
theorem exec_treq_of_more {b : Byte} (hb : s.busy = true) (ha : s.frame.at? s.fpos = some b) (hp : s.fpos ≠ 2#2) :
    exec .treq s = .next (respond .noData (advanceByte (emit b s))) := by
  obtain ⟨t, h⟩ := exec_treq_completes (s := s) fun _ h3 => by simp [(Frame.at?_eq_none _ _).mpr h3] at ha
  rcases execTreq_cases h with ⟨hb', -⟩ | ⟨b', -, ha', ⟨hp', -⟩ | ⟨-, rfl⟩⟩
  · simp [hb] at hb'
  · exact absurd hp' hp
  · obtain rfl : b = b' := Option.some.inj (ha.symm.trans ha')
    exact h

/-- At the last byte of a frame in transfer, a TREQ hands it over and ends the transfer (R222). -/
theorem exec_treq_of_last {b : Byte} (hb : s.busy = true) (ha : s.frame.at? s.fpos = some b) (hp : s.fpos = 2#2) :
    exec .treq s = .next (respond .noData (endTransfer (emit b s))) := by
  obtain ⟨t, h⟩ := exec_treq_completes (s := s) (by simp [hp])
  rcases execTreq_cases h with ⟨hb', -⟩ | ⟨b', -, ha', ⟨-, rfl⟩ | ⟨hp', -⟩⟩
  · simp [hb] at hb'
  · obtain rfl : b = b' := Option.some.inj (ha.symm.trans ha')
    exact h
  · exact absurd hp hp'

/-- The last byte of a frame: one TREQ ends the transfer (R222). -/
theorem execAll_treq_last (hb : s.busy = true) (hp : s.fpos = 2#2) :
    execAll [.treq] s =
      .next { s with out := s.out ++ [s.frame.b2], busy := false, fpos := 0#2, resp := .noData } :=
  execAll_cons_of_next (exec_treq_of_last hb (by simp [hp]) hp)

/-- The last two bytes of a frame, by two TREQs (R222). -/
theorem execAll_treq_last_two (hb : s.busy = true) (hp : s.fpos = 1#2) :
    execAll [.treq, .treq] s =
      .next { s with out := s.out ++ [s.frame.b1, s.frame.b2], busy := false, fpos := 0#2, resp := .noData } := by
  have hfirst := exec_treq_of_more (b := s.frame.b1) hb (by simp [hp]) (by simp [hp])
  rw [execAll_cons_of_next hfirst, execAll_treq_last (by simp [hb]) (by simp [hp])]
  simp [respond, advanceByte, emit]

/-- A whole frame, by three TREQs from its first byte (R222). -/
theorem execAll_treq_frame (hb : s.busy = true) (hp : s.fpos = 0#2) :
    execAll [.treq, .treq, .treq] s =
      .next { s with
        out := s.out ++ [s.frame.b0, s.frame.b1, s.frame.b2], busy := false, fpos := 0#2, resp := .noData } := by
  have hfirst := exec_treq_of_more (b := s.frame.b0) hb (by simp [hp]) (by simp [hp])
  rw [execAll_cons_of_next hfirst, execAll_treq_last_two (by simp [hb]) (by simp [hp])]
  simp [respond, advanceByte, emit]

/-- With no frame in transfer, three TREQs leave every element as it is (R223). -/
theorem execAll_treq_idle (hb : s.busy = false) :
    execAll [.treq, .treq, .treq] s = .next (respond .noData s) := by
  have hfirst := exec_treq_of_idle hb
  have hagain : exec .treq (respond .noData s) = .next (respond .noData s) := exec_treq_of_idle hb
  rw [execAll_cons_of_next hfirst, execAll_cons_of_next hagain, execAll_cons_of_next hagain]
  rfl

/-! ## What a frame carries -/

/-- A frame carries the code it was assembled from (R122). -/
theorem frameOf_code (p : Params) (c : Code) : (frameOf p c).code = c := by
  unfold Frame.code frameOf
  rw [BitVec.extractLsb'_append_eq_left,
    BitVec.extractLsb'_append_extractLsb'_eq_extractLsb' (by rfl : 4 = 0 + 4)]
  exact BitVec.extractLsb'_eq_self

/-- For a legal parameter set a frame has the command byte whole (R121). -/
theorem frameOf_command {p : Params} (hl : p.legal = true) (c : Code) : (frameOf p c).b0.toNat = p.pCmd := by
  obtain ⟨-, -, -, -, hcmd⟩ := (Params.legal_iff p).mp hl
  simp only [frameOf, BitVec.toNat_ofNat]
  omega

/-! ## The statements -/

/-- Settles O3: the encoding of an operation decodes to it, and an input that decodes carries that encoding. -/
theorem decodeAndEncodeAgree : Obligations.DecodeAndEncodeAgree :=
  ⟨decode_encode, fun _ _ h => encode_of_decode h⟩

/-- Settles O1: the write data is in the encoding of the three host writes and is not looked at in the other rows; and
an input that decodes to an operation has that operation's word. -/
theorem opcodeMapDecodes : Obligations.OpcodeMapDecodes := by
  refine ⟨fun w => ⟨decode_encode (.push w), decode_encode (.pushf w), ?_, ?_, ?_, ?_, decode_encode (.wrCtrl w), ?_, ?_,
    ?_, ?_, ?_, ?_, ?_, ?_, ?_, ?_, ?_, ?_, ?_, ?_⟩, fun o i h => ?word⟩
  case word =>
    rw [opw_of_decode h]
    cases i <;> simp [Instr.opw]
  all_goals exact decode_of_opw rfl (by decide)

/-- Settles O2: six of the words hold the encoding of an operation, and the last is of class `11`. -/
theorem writtenOutWordsDecode : Obligations.WrittenOutWordsDecode :=
  ⟨decodeTableWord_of_encode rfl, decodeTableWord_of_encode rfl, decodeTableWord_of_encode rfl,
    decodeTableWord_of_encode rfl, decodeTableWord_of_encode rfl, decodeTableWord_of_encode rfl,
    decodeTableWord_of_reservedClass rfl rfl⟩

/-- Settles O4: the bits of a reserved word tell how it decodes, and so under which name it is refused. -/
theorem reservedWordsAreRefused : Obligations.ReservedWordsAreRefused := by
  intro s o rest hl hi
  refine ⟨fun hc => ?_, fun hc hz => ?_⟩
  · exact step_of_reservedClass hl hi ((decode_eq_reservedClass_iff o).mpr hc)
  · exact step_of_reservedEventBits hl hi ((decode_eq_reservedEventBits_iff o).mpr ⟨hc, hz⟩)

/-- Settles O37, by the three facts about an assembled frame. -/
theorem frameCarriesItsCode : Obligations.FrameCarriesItsCode := by
  intro p c hl
  exact ⟨frameOf_command hl c, frameOf_low_nibble p c, frameOf_code p c⟩

/-- Settles O38: the three TREQs of `send` hand over the whole frame, or each does nothing. -/
theorem sendPseudoSendsWholeFrame : Obligations.SendPseudoSendsWholeFrame := by
  intro s
  refine ⟨fun hb hp => ?_, fun hb => execAll_treq_idle hb⟩
  have hsent := execAll_treq_frame hb hp
  rwa [← hp] at hsent

end Sys2Proof.Machine
end

section
/-! SUPPORT. Proofs for 40_ring_buffer.md: what an operation does to the ring (R153), how the unread codes move and the
FIFO law (R154), what a push does (R141, R142), what the counters say of the pushes (R143), the fill levels (R150 to
R152), the exact conversion (R146, R147), and the statements of that file. -/

namespace Sys2Proof

/-! ## The value of a binary32 pattern in units of 2^-149 (R108; log entry 12) -/

variable {x : Word}

theorem unitOne_pos : (0 : ℚ) < unitOne := by norm_num [unitOne]

/-- The magnitude of a finite pattern is its number of units (R108). -/
theorem binUnits_div_unitOne (x : Word) :
    (binUnits x : ℚ) / unitOne =
      if binExp x = 0 then (binFrac x : ℚ) / 2 ^ 23 * 2 ^ (-126 : ℤ)
      else (1 + (binFrac x : ℚ) / 2 ^ 23) * 2 ^ ((binExp x : ℤ) - 127) := by
  unfold binUnits
  cases he : binExp x with
  | zero =>
    simp only [if_true, unitOne]
    push_cast
    ring
  | succ e =>
    have hexp : (2 : ℚ) ^ (((e + 1 : ℕ) : ℤ) - 127) = 2 ^ e / 2 ^ 126 := by
      rw [← zpow_natCast, ← zpow_natCast, ← zpow_sub₀ two_ne_zero]
      congr 1
      push_cast
      ring
    simp only [Nat.add_one_ne_zero, if_false, hexp, unitOne]
    push_cast
    ring

/-- A pattern that is no NaN clamps to a whole number of units, and that is its clamped value (R108, R146). -/
theorem clamped_eq_units (h : Machine.isNaN x = false) :
    ∃ n : ℤ, (sampleOf x).clamped = some n ∧ Machine.clampedValue x = n / unitOne := by
  by_cases he : binExp x = 255
  · have hf : binFrac x = 0 := by simpa [Machine.isNaN, he] using h
    cases hs : binSign x with
    | false => exact ⟨unitOne, by simp [sampleOf, he, hf, hs, Sample.clamped], by
        simp [Machine.clampedValue, he, hs, unitOne_pos.ne']⟩
    | true => exact ⟨-unitOne, by simp [sampleOf, he, hf, hs, Sample.clamped], by
        simp [Machine.clampedValue, he, hs, unitOne_pos.ne']⟩
  · have hv : Machine.binValue x = ((if binSign x then -(binUnits x : ℤ) else binUnits x : ℤ) : ℚ) / unitOne := by
      rw [Machine.binValue, ← binUnits_div_unitOne]
      split <;> simp [neg_div]
    refine ⟨_, by rw [sampleOf, if_neg he]; rfl, ?_⟩
    rw [Machine.clampedValue, if_neg he, hv, Int.cast_min, Int.cast_max, ← min_div_div_right unitOne_pos.le,
      ← max_div_div_right unitOne_pos.le]
    simp [unitOne_pos.ne']

theorem clampedValue_bounds (x : Word) : -1 ≤ Machine.clampedValue x ∧ Machine.clampedValue x ≤ 1 := by
  unfold Machine.clampedValue
  split
  · split <;> norm_num
  · exact ⟨le_min (le_max_right _ _) (by norm_num), min_le_right _ _⟩

/-- A finite pattern has the value 0 where its exponent and its fraction are 0 (R108). -/
theorem binValue_eq_zero_iff (x : Word) : Machine.binValue x = 0 ↔ binExp x = 0 ∧ binFrac x = 0 := by
  have hsign : (if binSign x then -1 else 1 : ℚ) ≠ 0 := by split <;> norm_num
  rw [Machine.binValue, ← binUnits_div_unitOne, mul_eq_zero_iff_left hsign, div_eq_zero_iff,
    or_iff_left unitOne_pos.ne', Nat.cast_eq_zero, binUnits]
  split
  · next he => simp [he]
  · next he => simp [he]

/-- The patterns with exponent 0 and fraction 0 are those of the two zeros (R108). -/
theorem binExp_binFrac_eq_zero_iff (x : Word) :
    (binExp x = 0 ∧ binFrac x = 0) ↔ x = 0x00000000#32 ∨ x = 0x80000000#32 := by
  constructor
  · rintro ⟨he, hf⟩
    simp only [binExp, binFrac, BitVec.extractLsb'_toNat, Nat.shiftRight_eq_div_pow] at he hf
    have hx := x.isLt
    have hcases : x.toNat = 0 ∨ x.toNat = 0x80000000 := by omega
    exact hcases.imp (fun e => BitVec.eq_of_toNat_eq e) (fun e => BitVec.eq_of_toNat_eq e)
  · rintro (rfl | rfl) <;> exact ⟨rfl, rfl⟩

/-- Clamping leaves 0 and moves nothing else to it (R146). -/
theorem clampedValue_eq_zero_iff (x : Word) :
    Machine.clampedValue x = 0 ↔ x = 0x00000000#32 ∨ x = 0x80000000#32 := by
  rw [← binExp_binFrac_eq_zero_iff, Machine.clampedValue]
  split
  · next he => split <;> simp [he]
  · rw [← binValue_eq_zero_iff]
    grind

/-! ## The conversion -/

/-- The integer division of the conversion is the floor of the rational formula (R146). -/
theorem roundHalfUp_eq_floor (n : ℤ) :
    roundHalfUp n = ⌊((n : ℚ) / unitOne + 1) * 4095 / 2 + 1 / 2⌋ := by
  have hu := unitOne_pos.ne'
  have hdiv : ((n : ℚ) / unitOne + 1) * 4095 / 2 + 1 / 2 =
      (((n + unitOne) * 4095 + unitOne : ℤ) : ℚ) / ((2 * unitOne : ℕ) : ℚ) := by
    push_cast
    field_simp
  rw [hdiv, Rat.floor_intCast_div_natCast]
  exact rfl

/-- A sample that is no NaN converts to the floor of the rational formula (R146). -/
theorem convert_eq_floor (h : Machine.isNaN x = false) :
    ((convert x).toNat : ℤ) = ⌊(Machine.clampedValue x + 1) * 4095 / 2 + 1 / 2⌋ := by
  obtain ⟨n, hn, hv⟩ := clamped_eq_units h
  obtain ⟨hlo, hhi⟩ := clampedValue_bounds x
  have h0 : 0 ≤ ⌊(Machine.clampedValue x + 1) * 4095 / 2 + 1 / 2⌋ := Int.floor_nonneg.mpr (by linarith)
  have h1 : ⌊(Machine.clampedValue x + 1) * 4095 / 2 + 1 / 2⌋ < 4096 := Int.floor_lt.mpr (by push_cast; linarith)
  rw [convert, hn]
  simp only [roundHalfUp_eq_floor, ← hv, BitVec.toNat_ofNat]
  omega

/-- A NaN converts to the mid-scale code (R146). -/
theorem convert_of_isNaN (h : Machine.isNaN x = true) : convert x = 2048#12 := by
  obtain ⟨he, hf⟩ : binExp x = 255 ∧ binFrac x ≠ 0 := by simpa [Machine.isNaN] using h
  simp [convert, sampleOf, he, hf, Sample.clamped]

/-- The values that convert to a code (R147). -/
theorem convert_eq_iff (h : Machine.isNaN x = false) (k : ℕ) :
    (convert x).toNat = k ↔
      (2 * k - 1 : ℚ) / 4095 ≤ Machine.clampedValue x + 1 ∧ Machine.clampedValue x + 1 < (2 * k + 1 : ℚ) / 4095 := by
  rw [← Int.natCast_inj, convert_eq_floor h, Int.floor_eq_iff, Int.cast_natCast]
  constructor <;> rintro ⟨h1, h2⟩ <;> constructor <;> linarith

/-- A tie is a sample that is an even multiple of `1/4095`, and 4095 shares no factor with the unit: only 0 is one
(R147). -/
theorem tie_iff (h : Machine.isNaN x = false) :
    (∃ m : ℤ, (Machine.clampedValue x + 1) * 4095 / 2 + 1 / 2 = m) ↔ Machine.clampedValue x = 0 := by
  constructor
  · rintro ⟨m, hm⟩
    obtain ⟨n, -, hv⟩ := clamped_eq_units h
    obtain ⟨hlo, hhi⟩ := clampedValue_bounds x
    have hu := unitOne_pos
    have hdvd : ((2 * unitOne : ℕ) : ℤ) ∣ 4095 * n := by
      refine ⟨m - 2048, ?_⟩
      have hq : (4095 * n : ℚ) = 2 * unitOne * (m - 2048) := by
        rw [← hm, hv]
        field_simp
        ring
      exact_mod_cast hq
    have hgcd : Int.gcd ((2 * unitOne : ℕ) : ℤ) 4095 = 1 := by norm_num [unitOne]
    have hlt : |n| < ((2 * unitOne : ℕ) : ℤ) := by
      rw [hv, le_div_iff₀ hu] at hlo
      rw [hv, div_le_iff₀ hu] at hhi
      have hq : |(n : ℚ)| < 2 * unitOne := abs_lt.mpr ⟨by linarith, by linarith⟩
      exact_mod_cast hq
    rw [hv, Int.eq_zero_of_abs_lt_dvd (Int.dvd_of_dvd_mul_right_of_gcd_one hdvd hgcd) hlt]
    simp
  · intro h0
    exact ⟨2048, by norm_num [h0]⟩

end Sys2Proof

namespace Sys2Proof.Machine

variable {s t u : State} {i : Instr} {is ops : List Instr}

/-! ## Runs and what is observed along them -/

/-- A run that completes goes on from where its first operation leads. -/
theorem execAll_cons_eq_next (h : execAll (i :: is) s = .next t) :
    ∃ u, exec i s = .next u ∧ execAll is u = .next t := by
  unfold execAll at h
  cases hx : exec i s with
  | next u => exact ⟨u, rfl, by simpa [hx] using h⟩
  | fault f => simp [hx] at h
  | refused r => simp [hx] at h

/-- What is observed along a run is what its first operation shows, then what the rest shows. -/
theorem traceOf_cons_of_next {α : Type} (f : Instr → State → List α) (h : exec i s = .next u) :
    traceOf f (i :: is) s = f i s ++ traceOf f is u := by
  simp [traceOf, h]

/-! ## What is stored and what is popped -/

theorem storedBy_of_not_push (hp : pushedCode i = none) (s : State) : storedBy i s = [] := by
  simp [storedBy, hp]

theorem storedBy_of_push {c : Code} (hp : pushedCode i = some c) (s : State) :
    storedBy i s = if s.abort || s.isFull then [] else [c] := by
  simp [storedBy, hp]

theorem poppedBy_of_ne_tick (h : i ≠ .tick) (s : State) : poppedBy i s = [] := by
  simp [poppedBy, firesOn_of_ne_tick h]

theorem pushedCode_of_not_push (h : isPush i = false) : pushedCode i = none := by
  simpa [isPush] using h

theorem ne_tick_of_pushedCode {c : Code} (h : pushedCode i = some c) : i ≠ .tick :=
  (isHostOp_ne_event (isHostOp_of_pushedCode h)).1

/-- An operation stores one code where it is a push that is not dropped, and else none (R141, R142). -/
theorem storedBy_length (i : Instr) (s : State) :
    (storedBy i s).length = if isPush i && !(s.abort || s.isFull) then 1 else 0 := by
  cases hp : pushedCode i with
  | none => simp [storedBy_of_not_push hp, isPush, hp]
  | some c =>
    rw [storedBy_of_push hp, isPush_of_pushedCode hp]
    cases s.abort || s.isFull <;> rfl

/-! ## What an operation does to the ring -/

/-- `t` has the ring of `s`: its parameters, its slots and its indices. -/
structure SameRing (s t : State) : Prop where
  params : t.params = s.params
  mem : t.mem = s.mem
  widx : t.widx = s.widx
  ridx : t.ridx = s.ridx

theorem SameRing.avail_eq (h : SameRing s t) : t.avail = s.avail := State.avail_congr h.params h.widx h.ridx

theorem SameRing.contents_eq (h : SameRing s t) : t.contents = s.contents := by
  simp only [State.contents, h.avail_eq, h.mem, State.slot_congr h.params h.ridx]

/-- What an operation other than RESET does to the ring: it stores one code, pops one, or leaves the ring alone
(R153). -/
theorem ring_cases (hr : i ≠ .reset) (h : exec i s = .next t) :
    (∃ c, storedBy i s = [c] ∧ poppedBy i s = [] ∧ s.isFull = false ∧ SameRing (storeCode c s) t) ∨
    (∃ c, storedBy i s = [] ∧ poppedBy i s = [c] ∧ s.isEmpty = false ∧ s.mem.read s.rd.toNat = some c ∧
      SameRing (advanceRead s) t) ∨
    (storedBy i s = [] ∧ poppedBy i s = [] ∧ SameRing s t) := by
  have hquiet (hn : isPush i = false) (ht : i ≠ .tick) (hs : SameRing s t) :
      storedBy i s = [] ∧ poppedBy i s = [] ∧ SameRing s t :=
    ⟨storedBy_of_not_push (pushedCode_of_not_push hn) s, poppedBy_of_ne_tick ht s, hs⟩
  cases effect_of_exec h with
  | pushAborted hp ha =>
    refine .inr (.inr ⟨by simp [storedBy, ha], poppedBy_of_ne_tick (ne_tick_of_pushedCode hp) s, ?_⟩)
    constructor <;> simp
  | pushFull hp ha hf =>
    refine .inr (.inr ⟨by simp [storedBy, hf], poppedBy_of_ne_tick (ne_tick_of_pushedCode hp) s, ?_⟩)
    constructor <;> simp
  | @pushStored _ c hp ha hf =>
    refine .inl ⟨c, by simp [storedBy_of_push hp, ha, hf], poppedBy_of_ne_tick (ne_tick_of_pushedCode hp) s, hf, ?_⟩
    constructor <;> simp [State.wr]
  | tickQuiet hf =>
    refine .inr (.inr ⟨storedBy_of_not_push rfl s, by simp [poppedBy, hf], ?_⟩)
    constructor <;> simp
  | tickBusy hf hb =>
    refine .inr (.inr ⟨storedBy_of_not_push rfl s, by simp [poppedBy, hb], ?_⟩)
    constructor <;> simp
  | tickEmpty hf hb he =>
    refine .inr (.inr ⟨storedBy_of_not_push rfl s, by simp [poppedBy, he], ?_⟩)
    constructor <;> simp
  | @tickPop c hf hb he hm =>
    refine .inr (.inl ⟨c, storedBy_of_not_push rfl s, by simp [poppedBy, hf, hb, he, hm], he, hm, ?_⟩)
    constructor <;> simp [State.rd]
  | treqIdle | treqLast | treqByte => exact .inr (.inr (hquiet rfl (by simp) ⟨rfl, rfl, rfl, rfl⟩))
  | nack => exact .inr (.inr (hquiet rfl (by simp) (by rw [failTransfer_eq]; exact ⟨rfl, rfl, rfl, rfl⟩)))
  | wrCtrl w => exact .inr (.inr (hquiet rfl (by simp) (by rw [writeCtrl_eq]; exact ⟨rfl, rfl, rfl, rfl⟩)))
  | reset => exact absurd rfl hr
  | read hh hp hw r => exact .inr (.inr (hquiet hp (isHostOp_ne_event hh).1 ⟨rfl, rfl, rfl, rfl⟩))

/-! ## The unread codes -/

/-- Every unread slot is written, so the unread codes number `AVAIL` (R55). -/
theorem State.Inv.contents_length (h : s.Inv) : s.contents.length = s.avail := by
  rw [State.contents, List.filterMap_length_eq_length.mpr, List.length_range]
  intro j hj
  exact h.live_written j (List.mem_range.mp hj)

/-- A store puts its code after the unread ones (R82). -/
theorem contents_storeCode (hl : s.params.legal = true) (hf : s.isFull = false) (c : Code) :
    (storeCode c s).contents = s.contents ++ [c] := by
  have hslot (j : Nat) : (storeCode c s).slot j = s.slot j := State.slot_congr (by simp) (by simp) j
  have hlt := State.avail_lt hl
  have hold : (List.range s.avail).filterMap (fun j => (s.mem.write s.wr.toNat c).read (s.slot j)) = s.contents := by
    refine List.filterMap_congr fun j hj => ?_
    have hj : j < s.avail := List.mem_range.mp hj
    rw [Memory.read_write, ← State.slot_avail hl, if_neg]
    exact fun e => hj.ne' (State.slot_inj hl hlt (hj.trans hlt) e)
  have hnew : (s.mem.write s.wr.toNat c).read (s.slot s.avail) = some c := by
    rw [Memory.read_write, State.slot_avail hl, if_pos rfl]
  calc (storeCode c s).contents
      = (List.range (s.avail + 1)).filterMap (fun j => (s.mem.write s.wr.toNat c).read (s.slot j)) := by
        simp only [State.contents, avail_storeCode hl hf, hslot, storeCode_mem]
    _ = s.contents ++ [c] := by
        simp only [List.range_succ, List.filterMap_append, hold, List.filterMap_cons, hnew, List.filterMap_nil]

/-- A pop takes the oldest of the unread codes (R82, R144). -/
theorem contents_of_pop {c : Code} (hl : s.params.legal = true) (he : s.isEmpty = false)
    (hm : s.mem.read s.rd.toNat = some c) : s.contents = c :: (advanceRead s).contents := by
  have hlt := State.avail_lt hl
  have hav := avail_advanceRead hl he
  have hslot : ∀ j ∈ List.range (advanceRead s).avail,
      s.mem.read (s.slot (j + 1)) = s.mem.read ((advanceRead s).slot j) := by
    intro j hj
    have hj := List.mem_range.mp hj
    rw [State.slot_of_pop (t := advanceRead s) hl rfl rfl (by omega)]
  simp only [State.contents, ← hav, List.range_succ_eq_map, List.filterMap_cons, State.slot_zero hl, hm,
    List.filterMap_map, advanceRead_mem]
  exact congrArg (c :: ·) (List.filterMap_congr hslot)

/-- One operation: what was unread and what it stores is what it pops and what is left unread (R154). -/
theorem contents_of_exec (hl : s.params.legal = true) (hr : i ≠ .reset) (h : exec i s = .next t) :
    s.contents ++ storedBy i s = poppedBy i s ++ t.contents := by
  rcases ring_cases hr h with ⟨c, hs, hp, hf, hring⟩ | ⟨c, hs, hp, he, hm, hring⟩ | ⟨hs, hp, hring⟩
  · rw [hs, hp, hring.contents_eq, contents_storeCode hl hf, List.nil_append]
  · rw [hs, hp, hring.contents_eq, contents_of_pop hl he hm, List.append_nil, List.singleton_append]
  · rw [hs, hp, hring.contents_eq, List.append_nil, List.nil_append]

/-- A run without RESET is first in, first out, and keeps the invariant (R154). -/
theorem contents_of_run (hi : s.Inv) (hr : .reset ∉ ops) (h : execAll ops s = .next t) :
    s.contents ++ traceOf storedBy ops s = traceOf poppedBy ops s ++ t.contents ∧ t.Inv := by
  induction ops generalizing s with
  | nil =>
    cases h
    exact ⟨by simp [traceOf], hi⟩
  | cons i is ih =>
    obtain ⟨hri, hrs⟩ := not_or.mp (List.mem_cons.not.mp hr)
    obtain ⟨u, hx, hu⟩ := execAll_cons_eq_next h
    obtain ⟨hrun, ht⟩ := ih ((effect_of_exec hx).inv hi) hrs hu
    refine ⟨?_, ht⟩
    rw [traceOf_cons_of_next storedBy hx, traceOf_cons_of_next poppedBy hx]
    calc s.contents ++ (storedBy i s ++ traceOf storedBy is u)
        = (s.contents ++ storedBy i s) ++ traceOf storedBy is u := (List.append_assoc ..).symm
      _ = poppedBy i s ++ (u.contents ++ traceOf storedBy is u) := by
          rw [contents_of_exec hi.legal (Ne.symm hri) hx, List.append_assoc]
      _ = poppedBy i s ++ traceOf poppedBy is u ++ t.contents := by rw [hrun, List.append_assoc]

/-! ## The counters of the pushes -/

/-- One operation: `SAMPLES` grows by the code stored and the overrun counted, one or the other for a push (R143). -/
theorem samples_of_exec (hr : i ≠ .reset) (h : exec i s = .next t) :
    t.samples - s.samples = BitVec.ofNat 32 (storedBy i s).length + (t.overruns - s.overruns) := by
  obtain ⟨hs, -, -, ho, -⟩ := countersCountTheirEvents i s t hr h
  rw [hs, ho, storedBy_length]
  cases isPush i <;> cases s.abort || s.isFull <;> simp

/-- A run without RESET: `SAMPLES` counts the pushes, stored or not (R143). -/
theorem samples_of_run (hr : .reset ∉ ops) (h : execAll ops s = .next t) :
    t.samples = s.samples + BitVec.ofNat 32 (ops.countP isPush) ∧
    t.samples - s.samples = BitVec.ofNat 32 (traceOf storedBy ops s).length + (t.overruns - s.overruns) := by
  induction ops generalizing s with
  | nil =>
    cases h
    simp [traceOf]
  | cons i is ih =>
    obtain ⟨hri, hrs⟩ := not_or.mp (List.mem_cons.not.mp hr)
    obtain ⟨u, hx, hu⟩ := execAll_cons_eq_next h
    obtain ⟨hcount, hsplit⟩ := ih hrs hu
    obtain ⟨hs, -⟩ := countersCountTheirEvents i s u (Ne.symm hri) hx
    have hone := samples_of_exec (Ne.symm hri) hx
    constructor
    · rw [hcount, hs, List.countP_cons, BitVec.ofNat_add]
      split <;> ring
    · rw [traceOf_cons_of_next storedBy hx, List.length_append, BitVec.ofNat_add]
      calc t.samples - s.samples = (u.samples - s.samples) + (t.samples - u.samples) := by ring
        _ = _ := by rw [hone, hsplit]; ring

/-! ## What a push does -/

/-- The block position after a push is the next one as a number: no legal block reaches the end of the field (R39). -/
theorem blkpos_succ_eq_blockSize_iff (hl : s.params.legal = true) :
    (s.blkpos + 1#16).toNat = s.params.blockSize ↔ s.blkpos.toNat + 1 = s.params.blockSize := by
  obtain ⟨-, ⟨h1, h2⟩, -⟩ := s.params.legal_iff.mp hl
  have hcap := Params.cap_bounds hl
  have hb := s.blkpos.isLt
  rw [BitVec.toNat_add, BitVec.toNat_ofNat]
  omega

/-- A push is counted, and moves the block on, whatever becomes of its code (R39, R40, R141). -/
theorem pushCode_framing (c : Code) (s : State) :
    (pushCode c s).samples = s.samples + 1#32 ∧
    (pushCode c s).blkpos = (if (s.blkpos + 1#16).toNat = s.params.blockSize then 0#16 else s.blkpos + 1#16) ∧
    (pushCode c s).abort =
      (if (s.blkpos + 1#16).toNat = s.params.blockSize then false else s.abort || s.isFull) := by
  rcases pushCode_cases c s with ⟨ha, e⟩ | ⟨ha, hf, e⟩ | ⟨ha, hf, e⟩
  · simp [e, ha]
  · simp [e, hf]
  · simp [e, ha, hf]

/-- A push under a set abort latch drops its code (R141, R142). -/
theorem pushCode_of_abort (ha : s.abort = true) (c : Code) :
    (pushCode c s).overruns = s.overruns + 1#32 ∧ (pushCode c s).cause = .overrunAborted ∧
    (pushCode c s).widx = s.widx ∧ (pushCode c s).mem = s.mem := by
  rcases pushCode_cases c s with ⟨-, e⟩ | ⟨ha', -⟩ | ⟨ha', -⟩
  · simp [e]
  · simp [ha] at ha'
  · simp [ha] at ha'

/-- A push on a full ring drops its code (R141, R142). -/
theorem pushCode_of_full (ha : s.abort = false) (hf : s.isFull = true) (c : Code) :
    (pushCode c s).overruns = s.overruns + 1#32 ∧ (pushCode c s).cause = .overrunFull ∧
    (pushCode c s).widx = s.widx ∧ (pushCode c s).mem = s.mem := by
  rcases pushCode_cases c s with ⟨ha', -⟩ | ⟨-, -, e⟩ | ⟨-, hf', -⟩
  · simp [ha] at ha'
  · simp [e]
  · simp [hf] at hf'

/-- Any other push stores its code at the write index and advances that (R141). -/
theorem pushCode_of_room (ha : s.abort = false) (hf : s.isFull = false) (c : Code) :
    (pushCode c s).overruns = s.overruns ∧ (pushCode c s).cause = s.cause ∧
    (pushCode c s).widx = s.params.nextIdx s.wr ∧ (pushCode c s).mem = s.mem.write s.wr.toNat c := by
  rcases pushCode_cases c s with ⟨ha', -⟩ | ⟨-, hf', -⟩ | ⟨-, -, e⟩
  · simp [ha] at ha'
  · simp [hf] at hf'
  · simp [e, State.wr]

/-- A push writes seven elements and leaves every other as it is (R32). -/
theorem pushCode_frame (c : Code) (s : State) :
    pushCode c s = { s with
      mem := (pushCode c s).mem, widx := (pushCode c s).widx, blkpos := (pushCode c s).blkpos,
      abort := (pushCode c s).abort, cause := (pushCode c s).cause, samples := (pushCode c s).samples,
      overruns := (pushCode c s).overruns } := by
  rcases pushCode_cases c s with ⟨-, e⟩ | ⟨-, -, e⟩ | ⟨-, -, e⟩ <;> rw [e] <;> ext <;> simp

/-! ## The fill levels -/

/-- `AVAIL` as R36 writes it: the distance from the read index forward to the write index, modulo `N`. -/
theorem State.avail_eq_mod (hl : s.params.legal = true) :
    s.avail = (s.wr.toNat + s.params.cap - s.rd.toNat) % s.params.cap := by
  have hw := State.wr_lt hl
  have hr := State.rd_lt hl
  rw [State.avail_eq hl]
  split
  · rw [show s.wr.toNat + s.params.cap - s.rd.toNat = s.wr.toNat - s.rd.toNat + s.params.cap by omega,
      Nat.add_mod_right, Nat.mod_eq_of_lt (by omega)]
  · rw [Nat.mod_eq_of_lt (by omega)]

theorem State.availWord_eq (s : State) : s.availWord = BitVec.ofNat 32 s.avail := by
  rw [State.availWord, State.avail, BitVec.zeroExtend, BitVec.ofNat_toNat]

theorem State.freeWord_eq (hl : s.params.legal = true) : s.freeWord = BitVec.ofNat 32 s.free := by
  have hlt := State.avail_lt hl
  have hm := Params.mask_toNat hl
  have hsub : (s.params.mask - s.availIdx).toNat = s.free := by
    rw [BitVec.toNat_sub_of_le]
    · rw [hm, State.free, State.avail]
    · rw [BitVec.le_def, hm]
      exact Nat.le_sub_one_of_lt hlt
  rw [State.freeWord, ← hsub, BitVec.zeroExtend, BitVec.ofNat_toNat]

/-! ## The statements -/

/-- Settles O24: by the FIFO law of one operation, along the run. -/
theorem codesLeaveInPushOrder : Obligations.CodesLeaveInPushOrder := by
  intro ops s t hi hr h
  obtain ⟨hfifo, ht⟩ := contents_of_run hi hr h
  exact ⟨hfifo, hi.contents_length, ht.contents_length⟩

/-- Settles O25: the counters of one operation (`countersCountTheirEvents`), summed along the run. -/
theorem samplesAreStoredPlusOverruns : Obligations.SamplesAreStoredPlusOverruns :=
  fun _ _ _ hr h => samples_of_run hr h

/-- Settles O23: an operation stores one code, pops one, or leaves the ring alone. -/
theorem availChangesByOne : Obligations.AvailChangesByOne := by
  intro i s t hl h hr
  rcases ring_cases hr h with ⟨c, hs, hp, hf, hring⟩ | ⟨c, hs, hp, he, hm, hring⟩ | ⟨hs, hp, hring⟩
  · have hav : t.avail = s.avail + 1 := hring.avail_eq.trans (avail_storeCode hl hf c)
    have hne : s.avail ≠ s.params.cap - 1 := fun e => by simp [(State.isFull_iff_avail hl).mpr e] at hf
    have hlt := State.avail_lt hl
    refine ⟨fun _ => ⟨hav, ?_⟩, by simp [hp], by simp [hs]⟩
    rw [← Params.cap]
    omega
  · have hav : t.avail + 1 = s.avail := by rw [hring.avail_eq, avail_advanceRead hl he]
    exact ⟨by simp [hs], fun _ => hav, by simp [hp]⟩
  · exact ⟨by simp [hs], by simp [hp], fun _ _ => hring.avail_eq⟩

/-- Settles O21: the two register values are the fill levels as numbers. -/
theorem fillLevelReads : Obligations.FillLevelReads := by
  intro s hl
  rw [← Params.cap, ← State.avail_eq_mod hl, ← State.availWord_eq, ← State.free, ← State.freeWord_eq hl]
  exact ⟨rfl, rfl⟩

/-- Settles O22: `FREE` is the complement of `AVAIL`, and empty and full are its two ends. -/
theorem oneSlotIsAlwaysKeptEmpty : Obligations.OneSlotIsAlwaysKeptEmpty := by
  intro s hl
  have hlt := State.avail_lt hl
  have hempty := State.isEmpty_iff_avail hl
  have hfull := State.isFull_iff_avail hl
  rw [State.isFull_iff hl] at hfull
  rw [← Params.cap, hfull, ← hempty, State.free]
  refine ⟨by omega, by omega, by simp [State.isEmpty], by omega⟩

/-- Settles O18: both are `push_code` of the same code. -/
theorem pushfPushesConvertedCode : Obligations.PushfPushesConvertedCode := by
  intro s x y h
  rw [exec_push_eq (i := .pushf x) rfl, exec_push_eq (i := .push y) rfl, ← h]
  rfl

/-- Settles O19: the integer division is the rational formula, and a NaN is a case of its own. -/
theorem convertIsExactFormula : Obligations.ConvertIsExactFormula :=
  fun _ => ⟨convert_of_isNaN, convert_eq_floor⟩

/-- Settles O20: floors are monotone, each code is a floor's interval, and a tie is a sample of value 0. -/
theorem convertIntervalsAndTies : Obligations.ConvertIntervalsAndTies := by
  refine ⟨fun x y hx hy hle => ?_, fun x hx => ⟨fun k _ _ => convert_eq_iff hx k, ?_, ?_, ?_⟩⟩
  · rw [BitVec.le_def, ← Int.ofNat_le, convert_eq_floor hx, convert_eq_floor hy]
    exact Int.floor_mono (by linarith)
  · obtain ⟨hlo, -⟩ := clampedValue_bounds x
    rw [convert_eq_iff hx 0, Nat.cast_zero]
    exact ⟨fun ⟨_, h⟩ => by linarith, fun h => ⟨by linarith, by linarith⟩⟩
  · obtain ⟨-, hhi⟩ := clampedValue_bounds x
    rw [convert_eq_iff hx 4095, Nat.cast_ofNat]
    exact ⟨fun ⟨h, _⟩ => by linarith, fun h => ⟨by linarith, by linarith⟩⟩
  · rw [tie_iff hx, clampedValue_eq_zero_iff]

/-- Settles O17: the three cases of `push_code`, its block framing, and the elements it leaves alone. -/
theorem pushCodeProcedure : Obligations.PushCodeProcedure := by
  intro s w i c hl hi
  have hp : pushedCode i = some c := by
    rcases hi with ⟨rfl, rfl⟩ | ⟨rfl, rfl⟩ <;> rfl
  have hblk := blkpos_succ_eq_blockSize_iff hl
  have hfull := State.isFull_iff hl
  obtain ⟨hsamples, hpos, habort⟩ := pushCode_framing c s
  rw [← Params.cap, ← hfull]
  refine ⟨_, exec_push_eq hp s, hsamples, fun ha => pushCode_of_abort ha c, fun ha hf => pushCode_of_full ha hf c,
    fun ha hf => ?stored, fun hb => ?ends, fun hb => ?goesOn, congrArg (respond .noData) (pushCode_frame c s)⟩
  case stored =>
    obtain ⟨ho, hc, hw, hm⟩ := pushCode_of_room ha (Bool.eq_false_iff.mpr (mt hfull.mp hf)) c
    refine ⟨ho, hc, ?_, ?_, fun a hne => ?_⟩
    · rw [respond_widx, hw, Params.nextIdx_toNat hl]
    · rw [respond_mem, hm, Memory.read_write, if_pos rfl]
    · rw [respond_mem, hm, Memory.read_write, if_neg hne.symm]
  case ends => exact ⟨hpos.trans (if_pos (hblk.mpr hb)), habort.trans (if_pos (hblk.mpr hb))⟩
  case goesOn =>
    have hne := mt hblk.mp hb
    rw [respond_abort, habort, if_neg hne, Bool.or_eq_true]
    exact ⟨hpos.trans (if_neg hne), Iff.rfl⟩

end Sys2Proof.Machine
end

section
/-! SUPPORT. Proofs for 41_dispatch_timer.md: when a TICK fires and what it then does (R182, R184), the timer along a
run after the arming write (R192), what the firings count (R196), and the statements of that file. -/

namespace Sys2Proof

/-- The advanced read index, as the remainder of R144. -/
theorem Params.nextIdx_eq_ofNat {p : Params} (hl : p.legal = true) (x : Index) :
    p.nextIdx x = BitVec.ofNat 16 ((x.toNat + 1) % 2 ^ p.log2n) := by
  rw [← Params.cap, ← Params.nextIdx_toNat hl, BitVec.ofNat_toNat, BitVec.setWidth_eq]

end Sys2Proof

namespace Sys2Proof.Machine

variable {s t : State} {i : Instr} {ops : List Instr}

/-! ## When the timer fires -/

/-- The firing condition of a TICK, on the state before it (R183). -/
theorem firesNow_advanceTime_iff : (advanceTime s).firesNow = true ↔ s.armed = true ∧ s.time + 1#32 = s.alarm := by
  simp [State.firesNow]

theorem firesOn_iff : firesOn i s = true ↔ i = .tick ∧ s.armed = true ∧ s.time + 1#32 = s.alarm := by
  simp [firesOn, firesNow_advanceTime_iff]

theorem firingTimes_length (i : Instr) (s : State) : (firingTimes i s).length = if firesOn i s then 1 else 0 := by
  unfold firingTimes
  split <;> rfl

/-! ## What a TICK does -/

/-- A TICK that does not fire only advances the time (R182). -/
theorem exec_tick_of_quiet (hf : (advanceTime s).firesNow = false) :
    exec .tick s = .next (respond .noData (advanceTime s)) := by
  change onNext _ (tickTimer s) = _
  simp [tickTimer, hf]

/-- A TICK that fires runs the dispatch, with `TPEND` set and cleared again, and re-arms (R182, R185, R190). -/
theorem exec_tick_of_fires (hf : (advanceTime s).firesNow = true)
    (hs : serve (clearPending (setPending (advanceTime s))) = .next t) :
    exec .tick s = .next (respond .noData (rearm t)) := by
  change onNext _ (tickTimer s) = _
  simp [tickTimer, hf, dispatch, hs]

/-- Dispatch step 2: a firing that finds a frame in transfer (R187). -/
theorem exec_tick_of_busy (hf : (advanceTime s).firesNow = true) (hb : s.busy = true) :
    exec .tick s =
      .next (respond .noData (rearm (recordUnderrun .underrunBusy (clearPending (setPending (advanceTime s)))))) :=
  exec_tick_of_fires hf (by simp [serve, hb])

/-- Dispatch step 4: a firing that finds the ring empty (R189). -/
theorem exec_tick_of_empty (hf : (advanceTime s).firesNow = true) (hb : s.busy = false) (he : s.isEmpty = true) :
    exec .tick s =
      .next (respond .noData (rearm (recordUnderrun .underrunEmpty (clearPending (setPending (advanceTime s)))))) := by
  have he' : (clearPending (setPending (advanceTime s))).isEmpty = true := he
  exact exec_tick_of_fires hf (by simp [serve, hb, he'])

/-- Dispatch step 3: a firing that pops a code and issues its frame (R188). -/
theorem exec_tick_of_code {c : Code} (hf : (advanceTime s).firesNow = true) (hb : s.busy = false)
    (he : s.isEmpty = false) (hm : s.mem.read s.rd.toNat = some c) :
    exec .tick s =
      .next (respond .noData (rearm (issueFrame c (advanceRead (clearPending (setPending (advanceTime s))))))) := by
  have he' : (clearPending (setPending (advanceTime s))).isEmpty = false := he
  have hr : (clearPending (setPending (advanceTime s))).rd = s.rd := rfl
  exact exec_tick_of_fires hf (by simp [serve, hb, he', pop, hr, hm])

/-! ## The timer of an armed block -/

/-- What an operation other than RESET does to an Armed timer: a TICK advances `TIME`, a firing advances `ALARM`, and
nothing else moves either (R181, R182, R190). -/
theorem timer_of_exec (ha : s.armed = true) (hr : i ≠ .reset) (h : exec i s = .next t) :
    t.armed = true ∧ t.time = (if i = .tick then s.time + 1#32 else s.time) ∧
    t.alarm = if firesOn i s then s.alarm + s.params.periodWord else s.alarm := by
  cases effect_of_exec h with
  | pushAborted hp | pushFull hp | pushStored hp =>
    have ht := ne_tick_of_pushedCode hp
    simp [ha, ht, firesOn_of_ne_tick ht]
  | tickQuiet hf => simp [ha, hf]
  | tickBusy hf | tickEmpty hf | tickPop hf => simp [ha, hf]
  | treqIdle | treqLast | treqByte => simp [ha, firesOn]
  | nack => simp [failTransfer_eq, ha, firesOn]
  | wrCtrl w => simp [writeCtrl_eq, ha, firesOn]
  | reset => exact absurd rfl hr
  | read hh =>
    obtain ⟨ht, -⟩ := isHostOp_ne_event hh
    simp [ha, ht, firesOn_of_ne_tick ht]

/-! ## The schedule after the arming write -/

/-- The timer with period `p`, `n` ticks after it was armed at `TIME = t0`: `ALARM` is the first multiple of `p` ticks
after `t0` that is still to come (R192). -/
structure OnSchedule (t0 : Word) (p n : Nat) (s : State) : Prop where
  legal : s.params.legal = true
  period : s.params.period = p
  armed : s.armed = true
  time : s.time = t0 + BitVec.ofNat 32 n
  alarm : s.alarm = t0 + BitVec.ofNat 32 ((n / p + 1) * p)

/-- The first `k` firing times of a timer with period `p` armed at `t0` (R192). -/
def firstFirings (t0 : Word) (p k : Nat) : List Word :=
  (List.range k).map fun j => t0 + BitVec.ofNat 32 ((j + 1) * p)

theorem firstFirings_succ (t0 : Word) (p k : Nat) :
    firstFirings t0 p (k + 1) = firstFirings t0 p k ++ [t0 + BitVec.ofNat 32 ((k + 1) * p)] := by
  simp [firstFirings, List.range_succ]

/-- The arming write puts an Idle timer on its schedule (R181). -/
theorem onSchedule_of_arm {w : Word} (hl : s.params.legal = true) (ha : s.armed = false) (hw : w.getLsbD 0 = true)
    (h : exec (.wrCtrl w) s = .next t) : OnSchedule s.time s.params.period 0 t := by
  cases h
  have harm : ctrlArm w = true := hw
  constructor <;> simp [writeCtrl_eq, harm, ha, hl, Params.periodWord]

section OnSchedule

variable {t0 : Word} {p n : Nat}

/-- A timer on its schedule fires at the tick that completes a period: `ALARM` is `d < PERIOD < 2^32` ticks ahead of
the incremented `TIME`, so the two words are equal only for `d = 0` (R183, R192). -/
theorem OnSchedule.due_iff (h : OnSchedule t0 p n s) : s.time + 1#32 = s.alarm ↔ p ∣ n + 1 := by
  obtain ⟨-, -, -, ⟨h1, h2⟩, -⟩ := s.params.legal_iff.mp h.legal
  rw [h.period] at h1 h2
  obtain ⟨d, hd, hlt⟩ : ∃ d, (n / p + 1) * p = n + 1 + d ∧ d < p := by
    have hmod := Nat.mod_lt n h1
    have hdiv := Nat.div_add_mod' n p
    exact ⟨p - 1 - n % p, by rw [Nat.add_one_mul]; omega, by omega⟩
  have hword : s.alarm = s.time + 1#32 + BitVec.ofNat 32 d := by
    rw [h.alarm, h.time, hd, BitVec.ofNat_add, BitVec.ofNat_add, ← BitVec.add_assoc, ← BitVec.add_assoc]
  have hzero : BitVec.ofNat 32 d = 0#32 ↔ d = 0 := by
    rw [← BitVec.toNat_inj, BitVec.toNat_ofNat, BitVec.toNat_ofNat, Nat.mod_eq_of_lt (by omega), Nat.zero_mod]
  have hdvd : p ∣ n + 1 + d := hd ▸ Nat.dvd_mul_left p _
  calc s.time + 1#32 = s.alarm
      ↔ d = 0 := by rw [hword]; exact left_eq_add.trans hzero
    _ ↔ p ∣ d := ⟨fun e => e ▸ Nat.dvd_zero p, fun hpd => Nat.eq_zero_of_dvd_of_lt hpd hlt⟩
    _ ↔ p ∣ n + 1 := ⟨fun hpd => (Nat.dvd_add_left hpd).mp hdvd, fun hpn => (Nat.dvd_add_right hpn).mp hdvd⟩

/-- A TICK keeps the timer on its schedule and fires exactly at the next firing time of it (R192). -/
theorem OnSchedule.tick (h : OnSchedule t0 p n s) (hx : exec .tick s = .next t) :
    OnSchedule t0 p (n + 1) t ∧
    firstFirings t0 p (n / p) ++ firingTimes .tick s = firstFirings t0 p ((n + 1) / p) := by
  obtain ⟨hparams, -⟩ := exec_params_input hx
  obtain ⟨harmed, htime, halarm⟩ := timer_of_exec h.armed (by simp) hx
  have htime' : t.time = t0 + BitVec.ofNat 32 (n + 1) := by
    rw [htime, if_pos rfl, h.time, BitVec.ofNat_add, BitVec.add_assoc]
  have hfires : firesOn .tick s = true ↔ p ∣ n + 1 := firesOn_iff.trans (by simp [h.armed, h.due_iff])
  by_cases hd : p ∣ n + 1
  · have hdiv : (n + 1) / p = n / p + 1 := by rw [Nat.succ_div, if_pos hd]
    refine ⟨⟨hparams ▸ h.legal, hparams ▸ h.period, harmed, htime', ?_⟩, ?_⟩
    · rw [halarm, if_pos (hfires.mpr hd), h.alarm, Params.periodWord, h.period, hdiv, Nat.add_one_mul (n / p + 1),
        BitVec.ofNat_add, BitVec.add_assoc]
    · rw [hdiv, firstFirings_succ, firingTimes, if_pos (hfires.mpr hd), h.due_iff.mpr hd, h.alarm]
  · have hdiv : (n + 1) / p = n / p := by rw [Nat.succ_div, if_neg hd, Nat.add_zero]
    refine ⟨⟨hparams ▸ h.legal, hparams ▸ h.period, harmed, htime', ?_⟩, ?_⟩
    · rw [halarm, if_neg (mt hfires.mp hd), h.alarm, hdiv]
    · rw [hdiv, firingTimes, if_neg (mt hfires.mp hd), List.append_nil]

/-- No other operation but RESET moves the timer. -/
theorem OnSchedule.of_ne_tick (h : OnSchedule t0 p n s) (ht : i ≠ .tick) (hr : i ≠ .reset)
    (hx : exec i s = .next t) : OnSchedule t0 p n t ∧ firingTimes i s = [] := by
  obtain ⟨hparams, -⟩ := exec_params_input hx
  obtain ⟨harmed, htime, halarm⟩ := timer_of_exec h.armed hr hx
  have hf := firesOn_of_ne_tick ht s
  rw [if_neg ht] at htime
  rw [hf, if_neg Bool.false_ne_true] at halarm
  exact ⟨⟨hparams ▸ h.legal, hparams ▸ h.period, harmed, htime.trans h.time, halarm.trans h.alarm⟩, by
    simp [firingTimes, hf]⟩

/-- A run without RESET keeps the timer on its schedule, and its firings go on with those of the schedule (R192). -/
theorem OnSchedule.run (h : OnSchedule t0 p n s) (hr : .reset ∉ ops) (hx : execAll ops s = .next t) :
    OnSchedule t0 p (n + ops.count .tick) t ∧
    firstFirings t0 p (n / p) ++ traceOf firingTimes ops s = firstFirings t0 p ((n + ops.count .tick) / p) := by
  induction ops generalizing s n with
  | nil =>
    cases hx
    exact ⟨h, List.append_nil _⟩
  | cons i is ih =>
    obtain ⟨hri, hrs⟩ := not_or.mp (List.mem_cons.not.mp hr)
    obtain ⟨u, hi, hu⟩ := execAll_cons_eq_next hx
    rw [traceOf_cons_of_next firingTimes hi]
    by_cases ht : i = .tick
    · subst ht
      obtain ⟨hsched, hfirst⟩ := h.tick hi
      rw [List.count_cons_self, Nat.add_comm _ 1, ← Nat.add_assoc, ← List.append_assoc, hfirst]
      exact ih hsched hrs hu
    · obtain ⟨hsched, hnone⟩ := h.of_ne_tick ht (Ne.symm hri) hi
      rw [List.count_cons_of_ne ht, hnone, List.nil_append]
      exact ih hsched hrs hu

end OnSchedule

/-! ## What the firings count -/

/-- A firing that completes with no frame in transfer and the ring not empty pops one code; no other operation pops
(R188, R195). -/
theorem poppedBy_length (h : exec i s = .next t) :
    (poppedBy i s).length = if firesOn i s && !s.busy && !s.isEmpty then 1 else 0 := by
  cases hc : firesOn i s && !s.busy && !s.isEmpty with
  | false => simp [poppedBy, hc]
  | true =>
    rw [poppedBy, if_pos hc]
    simp only [Bool.and_eq_true, Bool.not_eq_true'] at hc
    obtain ⟨⟨hf, hb⟩, he⟩ := hc
    obtain ⟨rfl, -⟩ := firesOn_iff.mp hf
    rw [firesOn_tick] at hf
    rcases execTick_cases h with ⟨hf', -⟩ | ⟨-, hb', -⟩ | ⟨-, -, he', -⟩ | ⟨-, -, -, c, hm, -⟩
    · simp [hf] at hf'
    · simp [hb] at hb'
    · simp [he] at he'
    · simp [hm]

/-- One operation: `UPDATES` and `UNDERRUNS` together grow by its firing, and `UPDATES` by the code it pops (R196). -/
theorem updates_of_exec (hr : i ≠ .reset) (h : exec i s = .next t) :
    t.updates + t.underruns = s.updates + s.underruns + BitVec.ofNat 32 (firingTimes i s).length ∧
    t.updates = s.updates + BitVec.ofNat 32 (poppedBy i s).length := by
  obtain ⟨-, hup, hun, -⟩ := countersCountTheirEvents i s t hr h
  rw [hup, hun, firingTimes_length, poppedBy_length h, Bool.and_assoc, ← Bool.not_or]
  cases firesOn i s with
  | false => simp
  | true =>
    cases s.busy || s.isEmpty with
    | false => simp [add_right_comm]
    | true => simp [add_assoc]

/-- A run without RESET, summed over its operations (R196). -/
theorem updates_of_run (hr : .reset ∉ ops) (h : execAll ops s = .next t) :
    t.updates + t.underruns = s.updates + s.underruns + BitVec.ofNat 32 (traceOf firingTimes ops s).length ∧
    t.updates = s.updates + BitVec.ofNat 32 (traceOf poppedBy ops s).length := by
  induction ops generalizing s with
  | nil =>
    cases h
    simp [traceOf]
  | cons i is ih =>
    obtain ⟨hri, hrs⟩ := not_or.mp (List.mem_cons.not.mp hr)
    obtain ⟨u, hx, hu⟩ := execAll_cons_eq_next h
    obtain ⟨hsum, hpops⟩ := ih hrs hu
    obtain ⟨hsum1, hpops1⟩ := updates_of_exec (Ne.symm hri) hx
    rw [traceOf_cons_of_next firingTimes hx, traceOf_cons_of_next poppedBy hx, List.length_append, List.length_append,
      BitVec.ofNat_add, BitVec.ofNat_add]
    constructor
    · rw [hsum, hsum1, BitVec.add_assoc]
    · rw [hpops, hpops1, BitVec.add_assoc]

/-! ## The statements -/

/-- Settles O30: the arming write puts the timer on its schedule and every later operation keeps it there; a firing
puts `ALARM` one period past the `TIME` it has met. -/
theorem firingsDoNotDrift : Obligations.FiringsDoNotDrift := by
  constructor
  · intro s0 s t w ops hl ha hw harm hr hx
    obtain ⟨hsched, hfirings⟩ := (onSchedule_of_arm hl ha hw harm).run hr hx
    simp only [Nat.zero_add, Nat.zero_div] at hsched hfirings
    exact ⟨hfirings, hsched.time, hsched.alarm⟩
  · intro i s t hf hx
    obtain ⟨rfl, ha, hdue⟩ := firesOn_iff.mp hf
    obtain ⟨-, htime, halarm⟩ := timer_of_exec ha (by simp) hx
    rw [htime, halarm, if_pos rfl, if_pos hf, hdue, BitVec.add_comm, BitVec.add_sub_cancel, Params.periodWord]

/-- Settles O28: the firing runs the dispatch, whose three cases are those of `serve`; the popped index wraps as the
remainder modulo `N` does. -/
theorem dispatchTable : Obligations.DispatchTable := by
  intro s hl ha hdue
  have hf : (advanceTime s).firesNow = true := firesNow_advanceTime_iff.mpr ⟨ha, hdue⟩
  refine ⟨fun hb => ?collision, fun hb he => ?empty, fun c hb hne hm => ?code⟩
  case collision => simp [exec_tick_of_busy hf hb, State.ext_iff, Params.periodWord]
  case empty =>
    have he : s.isEmpty = true := by simpa [State.isEmpty] using he
    simp [exec_tick_of_empty hf hb he, State.ext_iff, Params.periodWord]
  case code =>
    have he : s.isEmpty = false := by simpa [State.isEmpty] using hne
    have hr : (clearPending (setPending (advanceTime s))).rd = s.rd := rfl
    simp [exec_tick_of_code hf hb he hm, State.ext_iff, Params.periodWord, hr, Params.nextIdx_eq_ofNat hl, frameOf]

/-- Settles O31: the counters of one operation, summed along the run. -/
theorem firingsAreUpdatesOrUnderruns : Obligations.FiringsAreUpdatesOrUnderruns :=
  fun _ _ _ hr h => updates_of_run hr h

/-- Settles O27: an Idle timer, or one whose `ALARM` is not reached, does not meet the firing condition. -/
theorem tickWithoutFiring : Obligations.TickWithoutFiring := by
  intro s h
  have hf : (advanceTime s).firesNow = false := by
    rw [Bool.eq_false_iff, ne_eq, firesNow_advanceTime_iff, not_and_or, Bool.not_eq_true]
    exact h
  exact exec_tick_of_quiet hf

end Sys2Proof.Machine
end

section
/-! SUPPORT. Proofs for 42_bus_transfer.md: what an operation does to `OUT` and to the bytes still unsent (R222, R225,
R227), that no host operation sees `FRAME` or `FPOS` (R228), and the statements of that file. -/

namespace Sys2Proof.Machine

variable {s t : State} {i : Instr} {ops : List Instr}

/-! ## The bytes still unsent -/

theorem unsent_of_idle (hb : s.busy = false) : s.unsent = [] := by simp [State.unsent, hb]

theorem unsent_of_busy (hb : s.busy = true) : s.unsent = s.frame.bytes.drop s.fpos.toNat := by simp [State.unsent, hb]

/-- Where `OUT` and the frame in transfer stay, no byte moves. -/
theorem unsent_kept (ho : t.out = s.out := by simp) (hb : t.busy = s.busy := by simp)
    (hf : t.frame = s.frame := by simp) (hp : t.fpos = s.fpos := by simp) :
    ∃ bs, t.out = s.out ++ bs ∧ s.unsent = bs ++ t.unsent :=
  ⟨[], by simp [ho], by simp [State.unsent, hb, hf, hp]⟩

/-- The byte at `pos` is the first of those from `pos` on (R121). -/
theorem Frame.drop_bytes_of_at? {f : Frame} {pos : BitVec 2} {b : Byte} (h : f.at? pos = some b) :
    f.bytes.drop pos.toNat = b :: f.bytes.drop (pos.toNat + 1) := by
  obtain ⟨hlt, hget⟩ := List.getElem?_eq_some_iff.mp h
  rw [List.drop_eq_getElem_cons hlt, hget]

/-- A TREQ moves to `OUT` the first of the unsent bytes, or nothing (R222, R223). -/
theorem unsent_of_treq (h : exec .treq s = .next t) : ∃ bs, t.out = s.out ++ bs ∧ s.unsent = bs ++ t.unsent := by
  rcases execTreq_cases h with ⟨-, rfl⟩ | ⟨b, hb, hat, ⟨hp, rfl⟩ | ⟨hp, rfl⟩⟩
  · exact unsent_kept
  · refine ⟨[b], rfl, ?_⟩
    rw [unsent_of_busy hb, Frame.drop_bytes_of_at? hat, hp, unsent_of_idle rfl]
    rfl
  · refine ⟨[b], rfl, ?_⟩
    have h3 : s.fpos ≠ 3#2 := fun e => by simp [(Frame.at?_eq_none _ _).mpr e] at hat
    have hnext : (s.fpos + 1#2).toNat = s.fpos.toNat + 1 := by bv_omega
    have hrest : (respond .noData (advanceByte (emit b s))).unsent = s.frame.bytes.drop (s.fpos + 1#2).toNat :=
      unsent_of_busy hb
    rw [unsent_of_busy hb, Frame.drop_bytes_of_at? hat, hrest, hnext]
    rfl

/-- What an operation does to `OUT` and the unsent bytes: it moves some of them to `OUT`, or it issues the frame of a
popped code where none was unsent (R188), or it abandons them (R225, R360). -/
theorem unsent_cases (h : exec i s = .next t) :
    (poppedBy i s = [] ∧ ∃ bs, t.out = s.out ++ bs ∧ s.unsent = bs ++ t.unsent) ∨
    (∃ c, poppedBy i s = [c] ∧ t.out = s.out ∧ s.unsent = [] ∧ t.unsent = (frameOf s.params c).bytes) ∨
    ((i = .nack ∨ i = .reset) ∧ poppedBy i s = [] ∧ t.out = s.out ∧ t.unsent = []) := by
  have hkeep (hr : i ≠ .reset) (ht : i ≠ .tick) (htreq : i ≠ .treq) (hn : i ≠ .nack) :
      poppedBy i s = [] ∧ ∃ bs, t.out = s.out ++ bs ∧ s.unsent = bs ++ t.unsent := by
    obtain ⟨-, -, -, -, -, htickOnly, -, -, -, hbusOnly, -, -, hout⟩ := everyElementHasItsWriters i s t h hr
    obtain ⟨-, -, -, hframe, -⟩ := htickOnly ht
    obtain ⟨hbusy, hfpos⟩ := hbusOnly ht htreq hn
    exact ⟨poppedBy_of_ne_tick ht s, unsent_kept (hout htreq) hbusy hframe hfpos⟩
  cases i with
  | treq => exact .inl ⟨poppedBy_of_ne_tick (by simp) s, unsent_of_treq h⟩
  | tick =>
    rcases execTick_cases h with ⟨hf, rfl⟩ | ⟨hf, hb, rfl⟩ | ⟨hf, hb, he, rfl⟩ | ⟨hf, hb, he, c, hm, rfl⟩
    · exact .inl ⟨by simp [poppedBy, hf], unsent_kept⟩
    · exact .inl ⟨by simp [poppedBy, hb], unsent_kept⟩
    · exact .inl ⟨by simp [poppedBy, he], unsent_kept⟩
    · exact .inr (.inl ⟨c, by simp [poppedBy, hf, hb, he, hm], by simp, unsent_of_idle hb, rfl⟩)
  | nack =>
    cases h
    exact .inr (.inr ⟨.inl rfl, poppedBy_of_ne_tick (by simp) s, by simp [failTransfer_eq],
      unsent_of_idle (by simp [failTransfer_eq])⟩)
  | reset =>
    cases h
    exact .inr (.inr ⟨.inr rfl, poppedBy_of_ne_tick (by simp) s, rfl, unsent_of_idle rfl⟩)
  | _ => exact .inl (hkeep (by simp) (by simp) (by simp) (by simp))

/-! ## `OUT` along a run -/

/-- The bytes of the frames of popped codes, frame by frame (R121). -/
def frameBytes (p : Params) (codes : List Code) : List (List Byte) := codes.map fun c => (frameOf p c).bytes

@[simp] theorem frameBytes_nil (p : Params) : frameBytes p [] = [] := rfl
@[simp] theorem frameBytes_cons (p : Params) (c : Code) (cs : List Code) :
    frameBytes p (c :: cs) = (frameOf p c).bytes :: frameBytes p cs := rfl

/-- `out'` is `out` with a leading part of each of the byte strings `whole` put after it, in order (R227). -/
def ExtendsByLeadingParts (out out' : List Byte) (whole : List (List Byte)) : Prop :=
  ∃ pieces : List (List Byte), out' = out ++ pieces.flatten ∧ List.Forall₂ List.IsPrefix pieces whole

section ExtendsByLeadingParts

variable {out out' bs w : List Byte} {ws : List (List Byte)}

/-- Nothing put after `out` is a leading part of whatever was to come. -/
theorem ExtendsByLeadingParts.refl : ExtendsByLeadingParts out out [w] :=
  ⟨[[]], by simp, .cons List.nil_prefix .nil⟩

/-- Bytes put after `out` first make the leading part of the first string longer. -/
theorem ExtendsByLeadingParts.append_head (h : ExtendsByLeadingParts (out ++ bs) out' (w :: ws)) :
    ExtendsByLeadingParts out out' ((bs ++ w) :: ws) := by
  obtain ⟨_, hout, hall⟩ := h
  obtain ⟨p, ps, hp, hps, rfl⟩ := List.forall₂_cons_right_iff.mp hall
  exact ⟨(bs ++ p) :: ps, by simp [hout], .cons ((List.prefix_append_right_inj bs).mpr hp) hps⟩

/-- A string of which nothing is put after `out` may stand before the others. -/
theorem ExtendsByLeadingParts.cons (h : ExtendsByLeadingParts out out' ws) :
    ExtendsByLeadingParts out out' (w :: ws) := by
  obtain ⟨ps, hout, hps⟩ := h
  exact ⟨[] :: ps, by simp [hout], .cons List.nil_prefix hps⟩

/-- The only leading part of the empty string adds nothing. -/
theorem ExtendsByLeadingParts.of_nil_cons (h : ExtendsByLeadingParts out out' ([] :: ws)) :
    ExtendsByLeadingParts out out' ws := by
  obtain ⟨_, hout, hall⟩ := h
  obtain ⟨p, ps, hp, hps, rfl⟩ := List.forall₂_cons_right_iff.mp hall
  obtain rfl := List.prefix_nil.mp hp
  exact ⟨ps, hout, hps⟩

end ExtendsByLeadingParts

/-- Along a run `OUT` grows by leading parts of the unsent bytes and of the frames of the popped codes (R227). -/
theorem out_of_run (h : execAll ops s = .next t) :
    ExtendsByLeadingParts s.out t.out (s.unsent :: frameBytes s.params (traceOf poppedBy ops s)) := by
  induction ops generalizing s with
  | nil =>
    cases h
    exact .refl
  | cons i is ih =>
    obtain ⟨u, hx, hu⟩ := execAll_cons_eq_next h
    have hrun := ih hu
    rw [(exec_params_input hx).1] at hrun
    rw [traceOf_cons_of_next poppedBy hx]
    rcases unsent_cases hx with ⟨hp, bs, ho, hs⟩ | ⟨c, hp, ho, -, hw⟩ | ⟨-, hp, ho, hw⟩
    · rw [ho] at hrun
      rw [hp, hs]
      exact hrun.append_head
    · rw [ho, hw] at hrun
      rw [hp]
      exact hrun.cons
    · rw [ho, hw] at hrun
      rw [hp]
      exact hrun.of_nil_cons.cons

/-- An operation that abandons no frame loses no byte: what was delivered or unsent is so still, and the frame of a
popped code comes after it (R222). -/
theorem out_append_unsent_of_exec (hn : i ≠ .nack) (hr : i ≠ .reset) (h : exec i s = .next t) :
    t.out ++ t.unsent = s.out ++ s.unsent ++ (frameBytes s.params (poppedBy i s)).flatten := by
  rcases unsent_cases h with ⟨hp, bs, ho, hs⟩ | ⟨c, hp, ho, hs, hw⟩ | ⟨hi, -⟩
  · simp [hp, ho, hs]
  · simp [hp, ho, hs, hw]
  · exact absurd hi (not_or.mpr ⟨hn, hr⟩)

/-- Along a run without NACK and RESET every frame is delivered whole, but for the bytes still unsent (R227). -/
theorem out_append_unsent_of_run (hn : .nack ∉ ops) (hr : .reset ∉ ops) (h : execAll ops s = .next t) :
    t.out ++ t.unsent = s.out ++ s.unsent ++ (frameBytes s.params (traceOf poppedBy ops s)).flatten := by
  induction ops generalizing s with
  | nil =>
    cases h
    simp [traceOf]
  | cons i is ih =>
    obtain ⟨hni, hns⟩ := not_or.mp (List.mem_cons.not.mp hn)
    obtain ⟨hri, hrs⟩ := not_or.mp (List.mem_cons.not.mp hr)
    obtain ⟨u, hx, hu⟩ := execAll_cons_eq_next h
    rw [ih hns hrs hu, (exec_params_input hx).1, out_append_unsent_of_exec (Ne.symm hni) (Ne.symm hri) hx,
      traceOf_cons_of_next poppedBy hx, List.append_assoc, ← List.flatten_append, frameBytes, frameBytes, frameBytes,
      List.map_append]

/-! ## No host operation sees the frame -/

/-- The state with another frame and another position in it (R45). -/
def State.withFrame (f : Frame) (pos : BitVec 2) (s : State) : State := { s with frame := f, fpos := pos }

/-- Only TICK and TREQ can fault, so every host operation completes. -/
theorem exec_host_completes (hh : isHostOp i = true) (s : State) : ∃ t, exec i s = .next t := by
  obtain ⟨ht, htreq, -, -⟩ := isHostOp_ne_event hh
  cases hx : exec i s with
  | next t => exact ⟨t, rfl⟩
  | fault f => exact absurd (exec_fault hx) (not_or.mpr ⟨ht, htreq⟩)
  | refused r => exact absurd hx (exec_not_refused i s r)

section WithFrame

variable (f : Frame) (pos : BitVec 2) (s : State)

theorem offerCode_withFrame (c : Code) : offerCode c (s.withFrame f pos) = (offerCode c s).withFrame f pos := by
  simp only [offerCode, apply_ite (State.withFrame f pos)]
  rfl

theorem advanceBlock_withFrame : advanceBlock (s.withFrame f pos) = (advanceBlock s).withFrame f pos := by
  rw [advanceBlock, advanceBlock, apply_ite (State.withFrame f pos)]
  rfl

theorem pushCode_withFrame (c : Code) : pushCode c (s.withFrame f pos) = (pushCode c s).withFrame f pos := by
  rw [pushCode, pushCode, ← advanceBlock_withFrame, ← offerCode_withFrame]
  rfl

theorem writeCtrl_withFrame (w : Word) : writeCtrl w (s.withFrame f pos) = (writeCtrl w s).withFrame f pos := by
  rw [writeCtrl_eq, writeCtrl_eq]
  rfl

/-- A host operation has the same outcome whatever the frame in transfer is and wherever it stands (R228). -/
theorem exec_host_withFrame (hh : isHostOp i = true) :
    exec i (s.withFrame f pos) = onNext (State.withFrame f pos) (exec i s) := by
  obtain ⟨htick, htreq, hnack, hreset⟩ := isHostOp_ne_event hh
  cases hp : pushedCode i with
  | some c =>
    rw [exec_push_eq hp, exec_push_eq hp, pushCode_withFrame]
    rfl
  | none =>
    cases i with
    | push w => cases hp
    | pushf w => cases hp
    | tick => exact absurd rfl htick
    | treq => exact absurd rfl htreq
    | nack => exact absurd rfl hnack
    | reset => exact absurd rfl hreset
    | wrCtrl w => exact congrArg (fun u => Host.Outcome.next (respond .noData u)) (writeCtrl_withFrame f pos s w)
    | _ => rfl

end WithFrame

/-! ## The statements -/

/-- Settles O36: the leading parts hold of every run, and without NACK and RESET no byte is lost. -/
theorem outputIsLeadingPartsOfFrames : Obligations.OutputIsLeadingPartsOfFrames :=
  fun _ _ _ _ h => ⟨out_of_run h, fun hn hr => out_append_unsent_of_run hn hr h⟩

/-- Settles O49: every host operation completes, is no writer of the frame, and commutes with changing it. -/
theorem hostNeverTouchesTheFrame : Obligations.HostNeverTouchesTheFrame := by
  intro i s f pos hh
  obtain ⟨htick, htreq, hnack, hreset⟩ := isHostOp_ne_event hh
  obtain ⟨t, h⟩ := exec_host_completes hh s
  obtain ⟨-, -, -, -, -, htickOnly, -, -, -, hbusOnly, -⟩ := everyElementHasItsWriters i s t h hreset
  obtain ⟨-, -, -, hframe, -⟩ := htickOnly htick
  obtain ⟨-, hfpos⟩ := hbusOnly htick htreq hnack
  have hsame := exec_host_withFrame f pos s hh
  rw [h] at hsame
  exact ⟨t, h, hframe, hfpos, hsame⟩

/-- Settles O33, by the rules for a TREQ with no frame, before the last byte and at it. -/
theorem transferRequestHandsOverOneByte : Obligations.TransferRequestHandsOverOneByte := by
  intro s
  refine ⟨exec_treq_of_idle, fun hb hp => ?_, fun hb hp => ?_, fun hb hp => ?_⟩
  · rw [exec_treq_of_more (b := s.frame.b0) hb (by simp [hp]) (by simp [hp])]
    simp [respond, advanceByte, emit, hp]
  · rw [exec_treq_of_more (b := s.frame.b1) hb (by simp [hp]) (by simp [hp])]
    simp [respond, advanceByte, emit, hp]
  · exact exec_treq_of_last hb (by simp [hp]) hp

/-- Settles O35: NACK is the one update that `failTransfer_eq` writes out. -/
theorem nackAbandonsTheFrame : Obligations.NackAbandonsTheFrame :=
  fun s => congrArg (fun u => Host.Outcome.next (respond .noData u)) (failTransfer_eq s)

end Sys2Proof.Machine
end

section
/-! SUPPORT. Proofs for 43_producer_refill.md: how the refill request follows the fill level (R250, R251), what a push
into a ring with room does, what the host's policy allows at each operation (R252 to R254), for how many ticks the
unread codes last (R255), pushes and the first pop of the scenario (R262), and the statements of that file. -/

namespace Sys2Proof.Machine

variable {s t : State} {i : Instr} {is ops : List Instr}

/-! ## The refill request -/

theorem State.refillReq_iff (s : State) :
    s.refillReq = true ↔ s.avail < s.params.lwm ∧ s.params.blockSize ≤ s.free := by
  simp [State.refillReq]

theorem State.irq_iff (s : State) : s.irq = true ↔ s.refillReq = true ∧ s.rie = true := by
  simp [State.irq]

/-- A request stands while the fill level does not rise (R250). -/
theorem refillReq_of_avail_le (hp : t.params = s.params) (ha : t.avail ≤ s.avail) (h : s.refillReq = true) :
    t.refillReq = true := by
  rw [State.refillReq_iff] at h ⊢
  rw [State.free] at h ⊢
  rw [hp]
  omega

/-- The fill level rises only by a store (R153). -/
theorem avail_le_of_storedBy_nil (hl : s.params.legal = true) (hr : i ≠ .reset) (hs : storedBy i s = [])
    (h : exec i s = .next t) : t.avail ≤ s.avail := by
  obtain ⟨-, hpop, hsame⟩ := availChangesByOne i s t hl h hr
  by_cases hp : poppedBy i s = []
  · exact (hsame hs hp).le
  · have := hpop hp
    omega

/-- The fill level falls only by a pop (R153). -/
theorem le_avail_of_poppedBy_nil (hl : s.params.legal = true) (hr : i ≠ .reset) (hp : poppedBy i s = [])
    (h : exec i s = .next t) : s.avail ≤ t.avail := by
  obtain ⟨hstore, -, hsame⟩ := availChangesByOne i s t hl h hr
  by_cases hs : storedBy i s = []
  · exact (hsame hs hp).ge
  · have := (hstore hs).1
    omega

/-- No operation but RESET lowers the fill level by more than one (R153). -/
theorem avail_le_succ (hl : s.params.legal = true) (hr : i ≠ .reset) (h : exec i s = .next t) :
    s.avail ≤ t.avail + 1 := by
  by_cases hp : poppedBy i s = []
  · exact (le_avail_of_poppedBy_nil hl hr hp h).trans (Nat.le_succ _)
  · obtain ⟨-, hpop, -⟩ := availChangesByOne i s t hl h hr
    exact (hpop hp).ge

/-- `RIE` is what a write of `CTRL` makes it, and else what it was, RESET apart (R287). -/
theorem rie_of_exec (hr : i ≠ .reset) (h : exec i s = .next t) :
    t.rie = s.rie ∨ ∃ w : Word, i = .wrCtrl w ∧ w.getLsbD 1 = t.rie := by
  by_cases hw : ∃ w : Word, i = .wrCtrl w
  · obtain ⟨w, rfl⟩ := hw
    cases h
    exact .inr ⟨w, rfl, by simp [writeCtrl_eq, ctrlRie]⟩
  · obtain ⟨-, -, -, -, -, -, -, -, hrie, -⟩ := everyElementHasItsWriters i s t h hr
    exact .inl (hrie fun w e => hw ⟨w, e⟩)

/-- RESET leaves the ring empty (R360). -/
theorem avail_resetBlock (hl : s.params.legal = true) : (resetBlock s).avail = 0 :=
  (State.isEmpty_iff_avail (s := resetBlock s) hl).mp (by simp [State.isEmpty, State.rd, State.wr])

/-- No operation but a push raises the fill level, RESET included. -/
theorem avail_le_of_not_push_of_legal (hl : s.params.legal = true) (hp : isPush i = false)
    (h : exec i s = .next t) : t.avail ≤ s.avail := by
  by_cases hr : i = .reset
  · subst hr
    cases h
    exact (avail_resetBlock hl).trans_le (Nat.zero_le _)
  · exact avail_le_of_not_push hl hp hr h

/-! ## Room in the ring -/

/-- A ring below its last level is not full (R38). -/
theorem isFull_of_avail_lt (hl : s.params.legal = true) (h : s.avail < s.params.cap - 1) : s.isFull = false := by
  rw [Bool.eq_false_iff, ne_eq, State.isFull_iff_avail hl]
  exact h.ne

/-- A push raises the fill level by at most one (R141). -/
theorem avail_le_of_push (hl : s.params.legal = true) (hp : isPush i = true) (h : exec i s = .next t) :
    t.avail ≤ s.avail + 1 := by
  obtain ⟨c, hc⟩ := Option.isSome_iff_exists.mp hp
  rw [exec_push_eq hc, Host.Outcome.next.injEq] at h
  subst h
  have hav : (pushCode c s).avail ≤ s.avail + 1 := by
    rw [avail_pushCode hl]
    split <;> omega
  exact hav

/-- Where a push finds the latch clear and the ring not full, none is dropped (R141, R142). -/
theorem stores_of_room (hr : i ≠ .reset) (hroom : isPush i = true → s.abort = false ∧ s.isFull = false)
    (h : exec i s = .next t) :
    t.overruns = s.overruns ∧ (storedBy i s).length = if isPush i then 1 else 0 := by
  obtain ⟨-, -, -, ho, -⟩ := countersCountTheirEvents i s t hr h
  rw [ho, storedBy_length]
  cases hp : isPush i with
  | false => simp
  | true =>
    obtain ⟨ha, hf⟩ := hroom hp
    simp [ha, hf]

/-- Only a push that finds the ring full sets the latch (R40, R141). -/
theorem abort_of_room (ha : s.abort = false) (hf : isPush i = true → s.isFull = false) (h : exec i s = .next t) :
    t.abort = false := by
  cases effect_of_exec h with
  | pushAborted hp ha' => simp [ha] at ha'
  | pushFull hp _ hf' => simp [hf (isPush_of_pushedCode hp)] at hf'
  | nack => simp [failTransfer_eq, ha]
  | wrCtrl w => simp [writeCtrl_eq, ha]
  | _ => simp [ha]

/-! ## What the policy allows (R252 to R254; log entry 16) -/

section Policy

variable {grants : Instr → State → Bool} {starts : State → Bool} {left bound : Nat} {granted : Bool} {p : Params}

/-- The policy at one operation: a push of a block begun, the first push of a block, or no push. -/
theorem pushesWholeBlocks_cons (h : pushesWholeBlocks grants starts (i :: is) s left granted = true)
    (hx : exec i s = .next t) :
    (isPush i = true ∧ 0 < left ∧ pushesWholeBlocks grants starts is t (left - 1) false = true) ∨
    (isPush i = true ∧ left = 0 ∧ granted = true ∧ starts s = true ∧
      pushesWholeBlocks grants starts is t (s.params.blockSize - 1) false = true) ∨
    (isPush i = false ∧ pushesWholeBlocks grants starts is t left (granted || grants i s) = true) := by
  rw [pushesWholeBlocks, hx] at h
  cases hp : isPush i with
  | false => simpa [hp] using h
  | true =>
    rcases Nat.eq_zero_or_pos left with rfl | hleft
    · simpa [hp, and_assoc] using h
    · simpa [hp, hleft, hleft.ne'] using h

/-- The host cannot bring the fill level above `bound`: not with the `left` pushes of its block that are still to come,
nor with a whole block where it holds a grant. -/
structure WithinBound (p : Params) (bound left : Nat) (granted : Bool) (s : State) : Prop where
  inv : s.Inv
  params : s.params = p
  block : s.avail + left ≤ bound
  grant : granted = true → s.avail + p.blockSize ≤ bound

/-- A grant leaves room below `bound` for a whole block. -/
def GrantsWithin (grants : Instr → State → Bool) (p : Params) (bound : Nat) : Prop :=
  ∀ (i : Instr) (s : State), s.Inv → s.params = p → grants i s = true → s.avail + p.blockSize ≤ bound

/-- A push of a block begun keeps within the bound. -/
theorem WithinBound.goesOn (h : WithinBound p bound left granted s) (hp : isPush i = true) (hleft : 0 < left)
    (hx : exec i s = .next t) : WithinBound p bound (left - 1) false t where
  inv := (effect_of_exec hx).inv h.inv
  params := (exec_params_input hx).1.trans h.params
  block := by
    have hav := avail_le_of_push h.inv.legal hp hx
    have hblock := h.block
    omega
  grant := by simp

/-- The first push of a block consumes the grant and keeps within the bound. -/
theorem WithinBound.begins (h : WithinBound p bound left true s) (hp : isPush i = true)
    (hx : exec i s = .next t) : WithinBound p bound (s.params.blockSize - 1) false t where
  inv := (effect_of_exec hx).inv h.inv
  params := (exec_params_input hx).1.trans h.params
  block := by
    have hav := avail_le_of_push h.inv.legal hp hx
    have hgrant := h.grant rfl
    have hpos := h.inv.blockSize_pos
    rw [← h.params] at hgrant
    omega
  grant := by simp

/-- Any other operation keeps within the bound, and so does the grant it may give. -/
theorem WithinBound.other (h : WithinBound p bound left granted s) (hg : GrantsWithin grants p bound)
    (hp : isPush i = false) (hx : exec i s = .next t) :
    WithinBound p bound left (granted || grants i s) t := by
  have hav := avail_le_of_not_push_of_legal h.inv.legal hp hx
  refine ⟨(effect_of_exec hx).inv h.inv, (exec_params_input hx).1.trans h.params,
    (Nat.add_le_add_right hav left).trans h.block, fun hgr => ?_⟩
  refine (Nat.add_le_add_right hav p.blockSize).trans ?_
  rcases (Bool.or_eq_true ..).mp hgr with hheld | hgiven
  · exact h.grant hheld
  · exact hg i s h.inv h.params hgiven

/-- A host that keeps the policy stays within the bound along every run, RESET included. -/
theorem WithinBound.run (h : WithinBound p bound left granted s) (hg : GrantsWithin grants p bound)
    (hpol : pushesWholeBlocks grants starts ops s left granted = true) (hx : execAll ops s = .next t) :
    t.avail ≤ bound := by
  induction ops generalizing s left granted with
  | nil =>
    cases hx
    exact (Nat.le_add_right _ _).trans h.block
  | cons i is ih =>
    obtain ⟨u, hi, hu⟩ := execAll_cons_eq_next hx
    rcases pushesWholeBlocks_cons hpol hi with ⟨hp, hleft, hrest⟩ | ⟨hp, -, rfl, -, hrest⟩ | ⟨hp, hrest⟩
    · exact ih (h.goesOn hp hleft hi) hrest hu
    · exact ih (h.begins hp hi) hrest hu
    · exact ih (h.other hg hp hi) hrest hu

/-- A read that grants a block finds room for it in the ring (R253). -/
theorem grantsBlock_within (p : Params) : GrantsWithin grantsBlock p (p.cap - 1) := by
  rintro i s hinv rfl h
  have hfree : s.params.blockSize ≤ s.free := by
    rcases (Bool.or_eq_true ..).mp h with hlevel | hrefill
    · exact of_decide_eq_true ((Bool.and_eq_true ..).mp hlevel).2
    · exact (s.refillReq_iff.mp ((Bool.and_eq_true ..).mp hrefill).2).2
  have hlt := State.avail_lt hinv.legal
  rw [State.free] at hfree
  omega

/-- A read that grants a refill finds the fill level below the watermark (R252, R254). -/
theorem grantsRefill_within (p : Params) : GrantsWithin grantsRefill p (p.lwm + p.blockSize - 1) := by
  rintro i s - rfl h
  have hlow : s.avail < s.params.lwm := by
    rcases (Bool.or_eq_true ..).mp h with hlevel | hrefill
    · exact of_decide_eq_true ((Bool.and_eq_true ..).mp hlevel).2
    · exact (s.refillReq_iff.mp ((Bool.and_eq_true ..).mp hrefill).2).1
  omega

/-- A push that the refill policy allows finds the latch clear and room in the ring: inside a block `left` slots are
free and the latch is clear, and a block begins on a grant at a boundary, where the latch is clear (R40, R253). -/
theorem WithinBound.ready (h : WithinBound p (p.cap - 1) left granted s) (ha : 0 < left → s.abort = false)
    (hstart : 0 < left ∨ granted = true ∧ atBoundary s = true) : s.abort = false ∧ s.isFull = false := by
  have hfull (hlt : s.avail < p.cap - 1) : s.isFull = false := isFull_of_avail_lt h.inv.legal (h.params ▸ hlt)
  have hblock := h.block
  rcases hstart with hleft | ⟨hgr, hb⟩
  · exact ⟨ha hleft, hfull (by omega)⟩
  · have hgrant := h.grant hgr
    have hpos := h.inv.blockSize_pos
    rw [h.params] at hpos
    have hb0 : s.blkpos = 0#16 := beq_iff_eq.mp hb
    exact ⟨Bool.eq_false_iff.mpr fun e => h.inv.abort_inside e hb0, hfull (by omega)⟩

/-- Under the refill policy one operation drops no code, and leaves the latch clear inside a block (R257). -/
theorem WithinBound.noDrop (h : WithinBound p (p.cap - 1) left granted s) (ha : 0 < left → s.abort = false)
    (hr : i ≠ .reset) (hpol : pushesWholeBlocks grantsBlock atBoundary (i :: is) s left granted = true)
    (hx : exec i s = .next t) :
    (t.overruns = s.overruns ∧ (storedBy i s).length = if isPush i then 1 else 0) ∧
    ∃ left' granted', WithinBound p (p.cap - 1) left' granted' t ∧ (0 < left' → t.abort = false) ∧
      pushesWholeBlocks grantsBlock atBoundary is t left' granted' = true := by
  rcases pushesWholeBlocks_cons hpol hx with ⟨hp, hleft, hrest⟩ | ⟨hp, -, rfl, hb, hrest⟩ | ⟨hp, hrest⟩
  · obtain ⟨ha0, hf0⟩ := h.ready ha (.inl hleft)
    exact ⟨stores_of_room hr (fun _ => ⟨ha0, hf0⟩) hx, _, _, h.goesOn hp hleft hx,
      fun _ => abort_of_room ha0 (fun _ => hf0) hx, hrest⟩
  · obtain ⟨ha0, hf0⟩ := h.ready ha (.inr ⟨rfl, hb⟩)
    exact ⟨stores_of_room hr (fun _ => ⟨ha0, hf0⟩) hx, _, _, h.begins hp hx,
      fun _ => abort_of_room ha0 (fun _ => hf0) hx, hrest⟩
  · exact ⟨stores_of_room hr (by simp [hp]) hx, _, _, h.other (grantsBlock_within p) hp hx,
      fun hleft => abort_of_room (ha hleft) (by simp [hp]) hx, hrest⟩

/-- Along a run under the refill policy every push stores its code (R257). -/
theorem WithinBound.noDrop_run (h : WithinBound p (p.cap - 1) left granted s) (ha : 0 < left → s.abort = false)
    (hr : .reset ∉ ops) (hpol : pushesWholeBlocks grantsBlock atBoundary ops s left granted = true)
    (hx : execAll ops s = .next t) :
    t.overruns = s.overruns ∧ (traceOf storedBy ops s).length = ops.countP isPush := by
  induction ops generalizing s left granted with
  | nil =>
    cases hx
    simp [traceOf]
  | cons i is ih =>
    obtain ⟨hri, hrs⟩ := not_or.mp (List.mem_cons.not.mp hr)
    obtain ⟨u, hi, hu⟩ := execAll_cons_eq_next hx
    obtain ⟨⟨ho, hstored⟩, left', granted', hbound, ha', hrest⟩ := h.noDrop ha (Ne.symm hri) hpol hi
    obtain ⟨ho', hstored'⟩ := ih hbound ha' hrs hrest hu
    refine ⟨ho'.trans ho, ?_⟩
    rw [traceOf_cons_of_next storedBy hi, List.length_append, hstored, hstored', List.countP_cons, Nat.add_comm]

end Policy

/-! ## How long the unread codes last (R255) -/

/-- A lower bound for the ticks before the one whose firing can find the ring empty: the armed timer first fires at
`ALARM`, and every unread code then puts the firing off by a period. -/
def State.ticksCovered (s : State) : Nat :=
  s.avail * s.params.period + if s.armed then (s.alarm - s.time).toNat - 1 else 0

/-- From a state that meets the invariant every operation completes (R55, R221). -/
theorem State.Inv.exec_completes (h : s.Inv) (i : Instr) : ∃ t, exec i s = .next t := by
  cases hx : exec i s with
  | next t => exact ⟨t, rfl⟩
  | fault f => exact absurd hx (h.exec_ne_fault i f)
  | refused r => exact absurd hx (exec_not_refused i s r)

/-- No firing finds the ring empty while ticks are covered. -/
theorem emptyFirings_of_ticksCovered (hl : s.params.legal = true) (h : i = .tick → 0 < s.ticksCovered) :
    emptyFirings i s = [] := by
  have hno : ¬ (firesOn i s && s.isEmpty) = true := by
    rw [Bool.and_eq_true, firesOn_iff, State.isEmpty_iff_avail hl]
    rintro ⟨⟨rfl, ha, hdue⟩, he⟩
    have hone : s.time + 1#32 - s.time = 1#32 := by rw [BitVec.add_comm, BitVec.add_sub_cancel]
    simp [State.ticksCovered, he, ha, ← hdue, hone] at h
  simp [emptyFirings, hno]

/-- A firing that leaves all but at most one of the unread codes uses up one covered tick: it moves `ALARM` from the
tick at hand to a period later (R190). -/
theorem ticksCovered_of_firing (h : s.Inv) (hf : (advanceTime s).firesNow = true) (hx : exec .tick s = .next t)
    (hav : s.avail ≤ t.avail + 1) : s.ticksCovered ≤ t.ticksCovered + 1 := by
  obtain ⟨ha, hdue⟩ := firesNow_advanceTime_iff.mp hf
  obtain ⟨hat, htime, halarm⟩ := timer_of_exec ha (by simp) hx
  obtain ⟨hp, hpos⟩ := h.periodWord_toNat
  have hnow : (s.alarm - s.time).toNat = 1 := by
    rw [← hdue, BitVec.add_comm, BitVec.add_sub_cancel]
    rfl
  have hnext : (t.alarm - t.time).toNat = s.params.period := by
    rw [halarm, htime, firesOn_tick, if_pos hf, if_pos rfl, hdue, BitVec.add_comm, BitVec.add_sub_cancel, hp]
  rw [State.ticksCovered, State.ticksCovered, (exec_params_input hx).1, if_pos ha, if_pos hat, hnow, hnext]
  calc s.avail * s.params.period + (1 - 1) ≤ (t.avail + 1) * s.params.period := Nat.mul_le_mul_right _ hav
    _ = t.avail * s.params.period + s.params.period := Nat.add_one_mul ..
    _ = t.avail * s.params.period + (s.params.period - 1) + 1 := by omega

/-- A tick without a firing uses up at most one covered tick (R182). -/
theorem ticksCovered_of_quiet (s : State) :
    s.ticksCovered ≤ (respond .noData (advanceTime s)).ticksCovered + 1 := by
  have hav : (respond .noData (advanceTime s)).avail = s.avail := rfl
  have hdist : (s.alarm - s.time).toNat - 1 ≤ (s.alarm - (s.time + 1#32)).toNat - 1 + 1 := by bv_omega
  rw [State.ticksCovered, State.ticksCovered, hav, Nat.add_assoc, respond_armed, advanceTime_armed]
  refine Nat.add_le_add_left ?_ _
  cases s.armed with
  | false => exact Nat.zero_le _
  | true => exact hdist

/-- An operation other than a TICK and RESET uses up no covered tick: it pops nothing and moves no armed timer. -/
theorem ticksCovered_of_ne_tick (hl : s.params.legal = true) (ht : i ≠ .tick) (hr : i ≠ .reset)
    (hx : exec i s = .next t) : s.ticksCovered ≤ t.ticksCovered := by
  have hav := le_avail_of_poppedBy_nil hl hr (poppedBy_of_ne_tick ht s) hx
  rw [State.ticksCovered, State.ticksCovered, (exec_params_input hx).1]
  refine Nat.add_le_add (Nat.mul_le_mul_right _ hav) ?_
  cases ha : s.armed with
  | false => exact Nat.zero_le _
  | true =>
    obtain ⟨hat, htime, halarm⟩ := timer_of_exec ha hr hx
    rw [hat, htime, halarm, if_neg ht, firesOn_of_ne_tick ht]
    exact le_rfl

/-- An operation other than RESET uses up at most one covered tick, and that only as a TICK. -/
theorem ticksCovered_of_exec (h : s.Inv) (hr : i ≠ .reset) (hx : exec i s = .next t) :
    s.ticksCovered ≤ t.ticksCovered + if i = .tick then 1 else 0 := by
  by_cases ht : i = .tick
  · subst ht
    cases hf : (advanceTime s).firesNow with
    | true => exact ticksCovered_of_firing h hf hx (avail_le_succ h.legal hr hx)
    | false =>
      rw [exec_tick_of_quiet hf, Host.Outcome.next.injEq] at hx
      exact hx ▸ ticksCovered_of_quiet s
  · rw [if_neg ht]
    exact ticksCovered_of_ne_tick h.legal ht hr hx

/-- Along a run without RESET no firing finds the ring empty while its ticks are covered (R255). -/
theorem emptyFirings_of_run (h : s.Inv) (hr : .reset ∉ ops) (hn : ops.count .tick ≤ s.ticksCovered) :
    traceOf emptyFirings ops s = [] := by
  induction ops generalizing s with
  | nil => rfl
  | cons i is ih =>
    obtain ⟨hri, hrs⟩ := not_or.mp (List.mem_cons.not.mp hr)
    obtain ⟨u, hx⟩ := h.exec_completes i
    have hcov := ticksCovered_of_exec h (Ne.symm hri) hx
    rw [List.count_cons] at hn
    simp only [beq_iff_eq] at hn
    have hfirst : i = .tick → 0 < s.ticksCovered := fun ht => by
      rw [if_pos ht] at hn
      omega
    rw [traceOf_cons_of_next emptyFirings hx, emptyFirings_of_ticksCovered h.legal hfirst,
      ih ((effect_of_exec hx).inv h) hrs (by omega), List.nil_append]

/-! ## The scenario (R262) -/

/-- `t` is `s` after `n` pushes that were all stored. -/
structure Stocked (n : Nat) (s t : State) : Prop where
  inv : t.Inv
  params : t.params = s.params
  avail : t.avail = s.avail + n
  blkpos : t.blkpos.toNat = (s.blkpos.toNat + n) % s.params.blockSize
  abort : t.abort = false
  overruns : t.overruns = s.overruns
  armed : t.armed = s.armed
  busy : t.busy = s.busy

/-- `BLKPOS` after a push is one more, modulo `BLOCK_SIZE` (R39). -/
theorem State.Inv.blkpos_pushCode (h : s.Inv) (c : Code) :
    (pushCode c s).blkpos.toNat = (s.blkpos.toNat + 1) % s.params.blockSize := by
  have hlt := h.blkpos_lt
  have hiff := blkpos_succ_eq_blockSize_iff h.legal
  obtain ⟨-, hblk, -⟩ := pushCode_framing c s
  rw [hblk]
  split
  · next he => rw [hiff.mp he, Nat.mod_self, BitVec.toNat_ofNat, Nat.zero_mod]
  · next hne =>
    have hne' := mt hiff.mpr hne
    have hin : s.blkpos.toNat + 1 < s.params.blockSize := by omega
    have hcap := Params.cap_bounds h.legal
    obtain ⟨-, ⟨-, hsz⟩, -⟩ := s.params.legal_iff.mp h.legal
    rw [Nat.mod_eq_of_lt hin, BitVec.toNat_add, BitVec.toNat_ofNat]
    omega

/-- The power-on state of a legal parameter set is the one RESET gives: it meets the invariant, with an empty ring
(R361). -/
theorem powerOn_inv_avail {p : Params} (hl : p.legal = true) :
    (State.powerOn p).Inv ∧ (State.powerOn p).avail = 0 :=
  have heq : resetBlock (State.powerOn p) = State.powerOn p := rfl
  ⟨heq ▸ resetBlock_inv hl, heq ▸ avail_resetBlock hl⟩

/-- A push into a ring with room, with the latch clear, is stored (R141). -/
theorem stocked_of_push {w : Word} (h : s.Inv) (ha : s.abort = false) (hroom : s.avail < s.params.cap - 1) :
    ∃ t, exec (.push w) s = .next t ∧ Stocked 1 s t := by
  have hf := isFull_of_avail_lt h.legal hroom
  have hx : exec (.push w) s = .next _ := exec_push_eq rfl s
  obtain ⟨hparams, -, -, -, -, -, harmed, -, -, hbusy, -⟩ := everyElementHasItsWriters _ s _ hx (by simp)
  have hav : (pushCode (dataCode w) s).avail = s.avail + 1 := by simp [avail_pushCode h.legal, ha, hf]
  exact ⟨_, hx, {
    inv := (effect_of_exec hx).inv h
    params := hparams
    avail := hav
    blkpos := h.blkpos_pushCode _
    abort := abort_of_room ha (fun _ => hf) hx
    overruns := (stores_of_room (by simp) (fun _ => ⟨ha, hf⟩) hx).1
    armed := harmed (by simp)
    busy := (hbusy (by simp) (by simp) (by simp)).1 }⟩

theorem Stocked.trans {m n : Nat} {u : State} (h : Stocked m s u) (h' : Stocked n u t) : Stocked (n + m) s t where
  inv := h'.inv
  params := h'.params.trans h.params
  avail := by rw [h'.avail, h.avail, Nat.add_assoc, Nat.add_comm m]
  blkpos := by rw [h'.blkpos, h.params, h.blkpos, Nat.mod_add_mod, Nat.add_assoc, Nat.add_comm m]
  abort := h'.abort
  overruns := h'.overruns.trans h.overruns
  armed := h'.armed.trans h.armed
  busy := h'.busy.trans h.busy

/-- Pushes for which the ring has room, begun with the latch clear, are all stored (R141). -/
theorem stocked_of_pushes (ws : List Word) (h : s.Inv) (ha : s.abort = false)
    (hroom : s.avail + ws.length < s.params.cap) :
    ∃ t, execAll (ws.map .push) s = .next t ∧ Stocked ws.length s t := by
  induction ws generalizing s with
  | nil => exact ⟨s, rfl, h, rfl, rfl, (Nat.mod_eq_of_lt h.blkpos_lt).symm, ha, rfl, rfl, rfl⟩
  | cons w ws ih =>
    rw [List.length_cons] at hroom
    obtain ⟨u, hx, hu⟩ := stocked_of_push (w := w) h ha (by omega)
    obtain ⟨t, hrun, ht⟩ := ih hu.inv hu.abort (by rw [hu.avail, hu.params]; omega)
    exact ⟨t, (execAll_cons_of_next hx).trans hrun, hu.trans ht⟩

/-- With `PERIOD = 1`, arming an Idle timer and one tick pop a code (R181, R182, R188). -/
theorem pop_of_arm_tick (h : s.Inv) (harm : s.armed = false) (hb : s.busy = false) (he : s.avail ≠ 0)
    (hp : s.params.period = 1) :
    ∃ t, execAll [.wrCtrl 0x1#32, .tick] s = .next t ∧ t.Inv ∧ t.params = s.params ∧ t.abort = s.abort ∧
      t.avail + 1 = s.avail := by
  have hw : exec (.wrCtrl 0x1#32) s = .next (respond .noData (writeCtrl 0x1#32 s)) := rfl
  have hinv := (effect_of_exec hw).inv h
  generalize hu : respond .noData (writeCtrl 0x1#32 s) = u at hw hinv
  have hparams : u.params = s.params := (exec_params_input hw).1
  have hfires : (advanceTime u).firesNow = true := by
    rw [firesNow_advanceTime_iff]
    simp [← hu, writeCtrl_eq, ctrlArm, harm, Params.periodWord, hp]
  have hbusy : u.busy = false := by simp [← hu, writeCtrl_eq, hb]
  have habort : u.abort = s.abort := by simp [← hu, writeCtrl_eq, ctrlBsync]
  have hav : u.avail = s.avail := by rw [← hu]; exact avail_writeCtrl _ s
  have hne : u.isEmpty = false := by
    rw [Bool.eq_false_iff, ne_eq, State.isEmpty_iff_avail hinv.legal, hav]
    exact he
  obtain ⟨t, hx⟩ := hinv.exec_completes .tick
  have hpop : poppedBy .tick u ≠ [] := by
    rw [← List.length_pos_iff, poppedBy_length hx]
    simp [hfires, hbusy, hne]
  obtain ⟨-, hone, -⟩ := availChangesByOne _ u t hinv.legal hx (by simp)
  obtain ⟨hparams', -, -, -, hblock, -⟩ := everyElementHasItsWriters _ u t hx (by simp)
  exact ⟨t, (execAll_cons_of_next hw).trans (execAll_cons_of_next hx), (effect_of_exec hx).inv hinv,
    hparams'.trans hparams, (hblock rfl rfl).2.trans habort, (hone hpop).trans hav⟩

/-! ## The statements -/

/-- Settles O52: a block begins where the latch is clear and the ring has room for it, so that with the bound `N - 1`
no push of it is dropped. -/
theorem noOverrunUnderRefillPolicy : Obligations.NoOverrunUnderRefillPolicy := by
  intro ops s t hinv hr hpol hx
  have hstart : WithinBound s.params (s.params.cap - 1) 0 false s :=
    ⟨hinv, rfl, Nat.le_sub_one_of_lt (State.avail_lt hinv.legal), by simp⟩
  exact hstart.noDrop_run (by simp) hr hpol hx

/-- Settles O54: `LWM` unread codes cover `LWM * PERIOD` ticks. -/
theorem watermarkCoversTheSleep : Obligations.WatermarkCoversTheSleep := by
  intro ops s hinv hlow hr hn
  refine emptyFirings_of_run hinv hr ?_
  calc ops.count .tick ≤ s.params.lwm * s.params.period := hn
    _ ≤ s.avail * s.params.period := Nat.mul_le_mul_right _ hlow
    _ ≤ s.ticksCovered := Nat.le_add_right ..

/-- Settles O43: below half the ring at least half of it is free. -/
theorem defaultWatermarkAloneRefills : Obligations.DefaultWatermarkAloneRefills := by
  intro s hl hlwm hblock
  rw [State.refillReq_iff, and_iff_left_of_imp]
  intro hlow
  have hcap := Params.cap_bounds hl
  rw [hlwm, Params.defaultLwm] at hlow
  rw [State.free]
  omega

/-- Settles O44: without a pop the request cannot rise and without a store it cannot fall, and only a write of `CTRL`
or RESET changes `RIE`. -/
theorem irqRisesAndFalls : Obligations.IrqRisesAndFalls := by
  intro i s t hl hx
  obtain ⟨hparams, -⟩ := exec_params_input hx
  refine ⟨fun hs ht => ?rises, fun hs ht => ?falls, fun hrie => by simp [State.irq, hrie]⟩
  case rises =>
    obtain ⟨hreq, hrie⟩ := t.irq_iff.mp ht
    have hr : i ≠ .reset := by
      rintro rfl
      cases hx
      simp at hrie
    by_cases hp : poppedBy i s = []
    · have hreq' := refillReq_of_avail_le hparams.symm (le_avail_of_poppedBy_nil hl hr hp hx) hreq
      have hrie' : s.rie = false := by simpa [State.irq, hreq'] using hs
      rcases rie_of_exec hr hx with e | ⟨w, rfl, e⟩
      · simp [hrie, hrie'] at e
      · exact .inr ⟨w, rfl, e.trans hrie⟩
    · exact .inl hp
  case falls =>
    obtain ⟨hreq, hrie⟩ := s.irq_iff.mp hs
    by_cases hr : i = .reset
    · exact .inr (.inr hr)
    by_cases hst : storedBy i s = []
    · have hreq' := refillReq_of_avail_le hparams (avail_le_of_storedBy_nil hl hr hst hx) hreq
      have hrie' : t.rie = false := by simpa [State.irq, hreq'] using ht
      rcases rie_of_exec hr hx with e | ⟨w, rfl, e⟩
      · simp [hrie, hrie'] at e
      · exact .inr (.inl ⟨w, rfl, e.trans hrie'⟩)
    · exact .inl hst

/-- Settles O53: each grant finds room for a block below `LWM + BLOCK_SIZE`. -/
theorem hysteresisBoundsTheFill : Obligations.HysteresisBoundsTheFill := by
  intro ops s t hinv hlow hpol hx
  have hstart : WithinBound s.params (s.params.lwm + s.params.blockSize - 1) 0 false s :=
    ⟨hinv, rfl, Nat.le_sub_one_of_lt hlow, by simp⟩
  have hfill := hstart.run (grantsRefill_within s.params) hpol hx
  omega

/-- Settles O55: 256 pushes fill half the ring, the first pop brings it below the watermark, and a block of 64 codes
then finds room. -/
theorem endToEndRefillScenario : Obligations.EndToEndRefillScenario := by
  intro cmd pre nxt hcmd hpre hnxt
  generalize hp : (⟨9, 64, 256, 1, cmd⟩ : Params) = p
  obtain ⟨hcap, hsize, hlwm, hperiod⟩ : p.cap = 512 ∧ p.blockSize = 64 ∧ p.lwm = 256 ∧ p.period = 1 := by
    subst hp
    exact ⟨rfl, rfl, rfl, rfl⟩
  have hl : p.legal = true := by
    rw [Params.legal_iff, hcap, hsize, hlwm, hperiod, ← hp]
    simp [hcmd]
  obtain ⟨hinv, hempty⟩ := powerOn_inv_avail hl
  obtain ⟨t1, hrun1, h1⟩ := stocked_of_pushes pre hinv rfl (by rw [hempty, powerOn_params]; omega)
  have hp1 : t1.params = p := h1.params
  have hav1 : t1.avail = 256 := by rw [h1.avail, hempty, hpre]
  have hblk1 : t1.blkpos.toNat = 0 := by simp [h1.blkpos, hpre, hsize]
  obtain ⟨t2, hrun2, hinv2, hparams2, ha2, hav2⟩ :=
    pop_of_arm_tick h1.inv h1.armed h1.busy (by omega) (by rw [hp1, hperiod])
  have hp2 : t2.params = p := hparams2.trans hp1
  have hreq2 : t2.refillReq = true := by
    rw [State.refillReq_iff, State.free, hp2, hcap, hsize, hlwm]
    omega
  obtain ⟨t3, hrun3, h3⟩ := stocked_of_pushes nxt hinv2 (ha2.trans h1.abort) (by rw [hp2]; omega)
  refine ⟨t1, t2, t3, hrun1, hav1, by rw [State.free, hav1, hp1, hcap], BitVec.eq_of_toNat_eq hblk1, h1.overruns,
    by simp [State.refillReq, hav1, hp1, hlwm], hrun2, by omega, hreq2, ?_, by rw [h3.avail]; omega⟩
  rwa [producerPushes, if_pos hreq2]

end Sys2Proof.Machine
end

section
/-! SUPPORT. Proofs for 44_registers.md: the fields of the register values (R282, R286, R296 to R298), that no operation
sees a statistics counter but to read it (R295), and the statements of that file. -/

namespace Sys2Proof

/-! ## The parameter registers -/

/-- A register of two fields is the number the fields stand for. -/
theorem toNat_append_eq_mul_add {m n : Nat} (x : BitVec m) (y : BitVec n) :
    (x ++ y).toNat = x.toNat * 2 ^ n + y.toNat := by
  rw [BitVec.toNat_append, ← Nat.shiftLeft_add_eq_or_of_lt y.isLt, Nat.shiftLeft_eq]

/-- `PARAM0` of a legal set holds `BLOCK_SIZE` and `LOG2N` whole (R296). -/
theorem Params.param0Word_eq {p : Params} (h : p.legal = true) :
    p.param0Word = BitVec.ofNat 32 (p.blockSize * 2 ^ 16 + p.log2n) := by
  obtain ⟨⟨-, hlog⟩, ⟨-, hblock⟩, -⟩ := p.legal_iff.mp h
  have hcap := Params.cap_bounds h
  apply BitVec.eq_of_toNat_eq
  simp only [Params.param0Word, toNat_append_eq_mul_add, BitVec.toNat_ofNat]
  omega

/-- `PARAM1` of a legal set holds `P_CMD` and `LWM` whole (R297). -/
theorem Params.param1Word_eq {p : Params} (h : p.legal = true) :
    p.param1Word = BitVec.ofNat 32 (p.pCmd * 2 ^ 16 + p.lwm) := by
  obtain ⟨-, -, ⟨-, hlwm⟩, -, hcmd⟩ := p.legal_iff.mp h
  have hcap := Params.cap_bounds h
  apply BitVec.eq_of_toNat_eq
  simp only [Params.param1Word, toNat_append_eq_mul_add, BitVec.toNat_ofNat]
  omega

/-- The value of `PERIOD` as a register value is the parameter whole (R298). -/
theorem Params.periodWord_toNat {p : Params} (h : p.legal = true) : p.periodWord.toNat = p.period := by
  obtain ⟨-, -, -, ⟨-, hperiod⟩, -⟩ := p.legal_iff.mp h
  rw [Params.periodWord, BitVec.toNat_ofNat]
  omega

end Sys2Proof

namespace Sys2Proof.Machine

variable {s : State} {i : Instr}

/-! ## The fields of `STATUS` and `CTRL` -/

/-- The low byte of `STATUS`: a flag in each bit, and 0 in bit 7 (R282). -/
theorem State.statusWord_flags (s : State) :
    s.statusWord.getLsbD 0 = s.isEmpty ∧ s.statusWord.getLsbD 1 = s.isFull ∧ s.statusWord.getLsbD 2 = s.refillReq ∧
    s.statusWord.getLsbD 3 = s.armed ∧ s.statusWord.getLsbD 4 = s.busy ∧ s.statusWord.getLsbD 5 = s.abort ∧
    s.statusWord.getLsbD 6 = s.irq ∧ s.statusWord.getLsbD 7 = false := by
  simp only [State.statusWord, BitVec.getLsbD_append, BitVec.getLsbD_ofBool]
  simp

/-- Bits 10:8 of `STATUS` hold the code of `CAUSE` (R282, R320). -/
theorem State.statusWord_cause (s : State) : s.statusWord.extractLsb' 8 3 = s.cause.code := by
  simp (disch := omega) only [State.statusWord, BitVec.extractLsb'_append_eq_of_le,
    BitVec.extractLsb'_append_eq_of_add_le]
  exact BitVec.extractLsb'_eq_self

/-- Bits 15:11 of `STATUS` are 0 (R282). -/
theorem State.statusWord_zeros (s : State) : s.statusWord.extractLsb' 11 5 = 0#5 := by
  simp (disch := omega) only [State.statusWord, BitVec.extractLsb'_append_eq_of_le,
    BitVec.extractLsb'_append_eq_of_add_le]
  exact BitVec.extractLsb'_eq_self

/-- Bits 31:16 of `STATUS` hold `BLKPOS` (R282). -/
theorem State.statusWord_blkpos (s : State) : s.statusWord.extractLsb' 16 16 = s.blkpos := by
  simp (disch := omega) only [State.statusWord, BitVec.extractLsb'_append_eq_of_le]
  exact BitVec.extractLsb'_eq_self

/-- `CTRL` as read holds `ARMED` in bit 0, `RIE` in bit 1 and 0 elsewhere (R286). -/
theorem State.ctrlWord_fields (s : State) :
    s.ctrlWord.getLsbD 0 = s.armed ∧ s.ctrlWord.getLsbD 1 = s.rie ∧ s.ctrlWord.extractLsb' 2 30 = 0#30 := by
  unfold State.ctrlWord
  generalize s.armed = a, s.rie = r
  revert a r
  decide

/-- A ring is not empty and full at once: it holds at least one code when full (R38). -/
theorem State.not_isEmpty_and_isFull (hl : s.params.legal = true) : ¬ (s.isEmpty = true ∧ s.isFull = true) := by
  rw [State.isEmpty_iff_avail hl, State.isFull_iff_avail hl]
  have hcap := Params.cap_bounds hl
  omega

/-! ## No operation sees the counters (R49, R295) -/

/-- `onNext f` answers a fault only by passing it on. -/
theorem onNext_eq_fault {f : State → State} {o : Host.Outcome State Fault Refusal} {r : Fault}
    (h : onNext f o = .fault r) : o = .fault r := by
  cases o with
  | next u => cases h
  | fault r' => exact h
  | refused r' => cases h

/-- The state with its five statistics counters at 0, which is what two states that differ only in counters share. -/
def State.noCounters (s : State) : State := s.withCounters 0 0 0 0 0

@[simp] theorem noCounters_frame (s : State) : s.noCounters.frame = s.frame := rfl
@[simp] theorem noCounters_fpos (s : State) : s.noCounters.fpos = s.fpos := rfl

/-- The test for the abort latch and the full test see no counter (R141). -/
theorem offerCode_noCounters (c : Code) (s : State) :
    (offerCode c s.noCounters).noCounters = (offerCode c s).noCounters := by
  simp only [offerCode, apply_ite State.noCounters]
  rfl

theorem advanceBlock_noCounters (s : State) : advanceBlock s.noCounters = (advanceBlock s).noCounters := by
  rw [advanceBlock, advanceBlock, apply_ite State.noCounters]
  rfl

/-- A push does the same to the elements that are no counters, whatever the counters hold (R141). -/
theorem pushCode_noCounters (c : Code) (s : State) :
    (pushCode c s.noCounters).noCounters = (pushCode c s).noCounters := by
  calc (pushCode c s.noCounters).noCounters
      = advanceBlock (offerCode c (countSample s.noCounters)).noCounters := (advanceBlock_noCounters _).symm
    _ = advanceBlock (offerCode c (countSample s.noCounters).noCounters).noCounters := by rw [offerCode_noCounters]
    _ = advanceBlock (offerCode c (countSample s).noCounters).noCounters := rfl
    _ = (pushCode c s).noCounters := by rw [offerCode_noCounters, advanceBlock_noCounters, pushCode]

/-- The dispatch's steps 2 to 4 see no counter (R184). -/
theorem serve_noCounters (s : State) :
    onNext State.noCounters (serve s.noCounters) = onNext State.noCounters (serve s) := by
  have hpop : pop s.noCounters = (pop s).map fun x => (x.1, x.2.noCounters) := by
    rw [pop, pop, Option.map_map]
    rfl
  simp only [serve, hpop, apply_ite (onNext State.noCounters)]
  cases pop s <;> rfl

/-- A TICK sees no counter (R182). -/
theorem tickTimer_noCounters (s : State) :
    onNext State.noCounters (tickTimer s.noCounters) = onNext State.noCounters (tickTimer s) := by
  have hrearm (o : Host.Outcome State Fault Refusal) : onNext State.noCounters (onNext rearm o) =
      onNext rearm (onNext State.noCounters o) := by cases o <;> rfl
  have hdispatch (s : State) :
      onNext State.noCounters (dispatch s.noCounters) = onNext State.noCounters (dispatch s) := by
    rw [dispatch, dispatch, hrearm, hrearm, ← serve_noCounters (clearPending s)]
    rfl
  rw [tickTimer, tickTimer, apply_ite (onNext State.noCounters), apply_ite (onNext State.noCounters),
    ← hdispatch (setPending (advanceTime s))]
  rfl

/-- A TREQ neither sees nor changes a counter (R222). -/
theorem sendByte_noCounters (s : State) : sendByte s.noCounters = onNext State.noCounters (sendByte s) := by
  rw [sendByte, sendByte, apply_ite (onNext State.noCounters), noCounters_frame, noCounters_fpos]
  cases s.frame.at? s.fpos with
  | none => rfl
  | some b =>
    simp only [apply_ite (onNext State.noCounters)]
    rfl

theorem failTransfer_noCounters (s : State) : (failTransfer s.noCounters).noCounters = (failTransfer s).noCounters := by
  rw [failTransfer_eq, failTransfer_eq]
  rfl

theorem writeCtrl_noCounters (w : Word) (s : State) : writeCtrl w s.noCounters = (writeCtrl w s).noCounters := by
  rw [writeCtrl_eq, writeCtrl_eq]
  rfl

/-- No operation but the counter reads sees a counter: with the counters at 0 it has the same outcome, counters
apart. -/
theorem exec_noCounters (hi : readsCounter i = false) (s : State) :
    onNext State.noCounters (exec i s.noCounters) = onNext State.noCounters (exec i s) := by
  have hrespond (o : Host.Outcome State Fault Refusal) : onNext State.noCounters (onNext (respond .noData) o) =
      onNext (respond .noData) (onNext State.noCounters o) := by cases o <;> rfl
  cases hp : pushedCode i with
  | some c =>
    rw [exec_push_eq hp, exec_push_eq hp]
    exact congrArg (fun u => Host.Outcome.next (respond .noData u)) (pushCode_noCounters c s)
  | none =>
    cases i with
    | push w => cases hp
    | pushf w => cases hp
    | rdSamples | rdUpdates | rdUnderruns | rdOverruns | rdXferErr => cases hi
    | tick =>
      change onNext _ (onNext _ (tickTimer _)) = onNext _ (onNext _ (tickTimer s))
      rw [hrespond, hrespond, tickTimer_noCounters]
    | treq =>
      change onNext _ (onNext _ (sendByte _)) = onNext _ (onNext _ (sendByte s))
      rw [hrespond, hrespond, sendByte_noCounters]
      cases sendByte s <;> rfl
    | nack => exact congrArg (fun u => Host.Outcome.next (respond .noData u)) (failTransfer_noCounters s)
    | wrCtrl w =>
      exact congrArg (fun u => Host.Outcome.next (respond .noData u.noCounters)) (writeCtrl_noCounters w s)
    | _ => rfl

/-! ## The statements -/

/-- Settles O26: the write is the one update that `writeCtrl_eq` writes out. -/
theorem ctrlWriteEffects : Obligations.CtrlWriteEffects := by
  intro s w
  refine congrArg Host.Outcome.next ?_
  rw [writeCtrl_eq, Bool.or_comm]
  simp [respond, ctrlArm, ctrlRie, ctrlBsync, Params.periodWord]

/-- Settles O39, field by field; EMPTY and FULL are the two ends of the fill level, which legal parameters keep
apart. -/
theorem statusFields : Obligations.StatusFields := by
  intro s
  obtain ⟨hempty, hfull, hrefill, harmed, hbusy, habort, hirq, hzero⟩ := s.statusWord_flags
  have hreq : s.refillReq = decide (s.avail < s.params.lwm ∧ s.params.blockSize ≤ s.free) :=
    (Bool.decide_and ..).symm
  refine ⟨s.statusWord, rfl, hempty, hfull, hrefill.trans hreq, harmed, hbusy, habort,
    hirq.trans (congrArg (· && s.rie) hreq), hzero, ?_, s.statusWord_zeros, s.statusWord_blkpos, fun hl => ?_⟩
  · rw [s.statusWord_cause]
    cases s.cause <;> rfl
  · rw [hempty, hfull]
    exact State.not_isEmpty_and_isFull hl

/-- Settles O40, by the fields of `CTRL` as read. -/
theorem ctrlReads : Obligations.CtrlReads := fun s => ⟨s.ctrlWord, rfl, s.ctrlWord_fields⟩

/-- Settles O41: each of the seven reads answers its own element, by its definition. -/
theorem counterAndTimerReads : Obligations.CounterAndTimerReads :=
  fun _ => ⟨rfl, rfl, rfl, rfl, rfl, rfl, rfl⟩

/-- Settles O42: every legal parameter fits its field. -/
theorem parameterReads : Obligations.ParameterReads := by
  intro s hl
  obtain ⟨-, -, -, ⟨hpos, -⟩, -⟩ := s.params.legal_iff.mp hl
  have hperiod := Params.periodWord_toNat hl
  rw [← Params.param0Word_eq hl, ← Params.param1Word_eq hl]
  refine ⟨rfl, rfl, s.params.periodWord, rfl, hperiod, fun h0 => ?_⟩
  rw [h0, BitVec.toNat_zero] at hperiod
  omega

/-- Settles O47: the two states are one state with the counters at 0, whose outcome both share, counters apart. -/
theorem countersNeverGateBehaviour : Obligations.CountersNeverGateBehaviour := by
  intro i s a b c d e hi
  have hsame : onNext State.noCounters (exec i (s.withCounters a b c d e)) = onNext State.noCounters (exec i s) :=
    (exec_noCounters hi (s.withCounters a b c d e)).symm.trans (exec_noCounters hi s)
  cases hx : exec i s with
  | next t =>
    rw [hx] at hsame
    obtain ⟨t', ht', he⟩ := onNext_eq_next hsame
    rw [ht']
    exact he.symm
  | fault f =>
    rw [hx] at hsame
    rw [onNext_eq_fault hsame]
  | refused r => exact absurd hx (exec_not_refused i s r)

end Sys2Proof.Machine
end

section
/-! SUPPORT. Proofs for 60_exceptions.md: two operations in either order (R81), what a firing does with an unread code
(R188) and a push with an empty ring (R141), the three pairs of orders of R332, and the statement of that file. -/

namespace Sys2Proof.Machine

variable {s t u : State} {i j : Instr}

/-! ## Two operations in an order -/

/-- Two operations that complete one after the other are a run (R80). -/
theorem execAll_pair (hi : exec i s = .next u) (hj : exec j u = .next t) : execAll [i, j] s = .next t :=
  (execAll_cons_of_next hi).trans (execAll_cons_of_next hj)

/-! ## The next unread code -/

/-- Where a code is unread, the slot the next pop reads is written (R55). -/
theorem State.Inv.front_written (h : s.Inv) (hpos : 0 < s.avail) : ∃ c, s.mem.read s.rd.toNat = some c :=
  Option.isSome_iff_exists.mp (State.slot_zero h.legal ▸ h.live_written 0 hpos)

/-- What a firing does that finds no frame in transfer and an unread code (R188). -/
theorem exec_tick_of_unread {c : Code} (hl : s.params.legal = true) (hf : (advanceTime s).firesNow = true)
    (hb : s.busy = false) (hpos : 0 < s.avail) (hm : s.mem.read s.rd.toNat = some c) :
    ∃ t, exec .tick s = .next t ∧ t.underruns = s.underruns ∧ t.updates = s.updates + 1#32 ∧
      t.avail + 1 = s.avail ∧ t.busy = true ∧ t.fpos = 0#2 ∧ t.frame = frameOf s.params c := by
  have he : s.isEmpty = false := by
    rw [Bool.eq_false_iff, ne_eq, State.isEmpty_iff_avail hl]
    exact hpos.ne'
  refine ⟨_, exec_tick_of_code hf hb he hm, by simp, by simp, ?_, by simp, by simp, by simp⟩
  rw [← avail_advanceRead hl he]
  exact congrArg (· + 1) (State.avail_congr (by simp) (by simp) (by simp [State.rd]))

/-- A push leaves the timer, the bus and what the dispatch counts alone (R32). -/
theorem pushCode_keeps (c : Code) (s : State) :
    (pushCode c s).params = s.params ∧ (pushCode c s).armed = s.armed ∧ (pushCode c s).time = s.time ∧
    (pushCode c s).alarm = s.alarm ∧ (pushCode c s).busy = s.busy ∧ (pushCode c s).updates = s.updates ∧
    (pushCode c s).underruns = s.underruns := by
  rw [pushCode_frame]
  exact ⟨rfl, rfl, rfl, rfl, rfl, rfl, rfl⟩

/-- A push into an empty ring with the latch clear stores its code where the next pop reads: the write index is the
read index there (R38, R141). -/
theorem pushCode_of_empty (hl : s.params.legal = true) (he : s.avail = 0) (ha : s.abort = false) (c : Code) :
    (pushCode c s).avail = 1 ∧ (pushCode c s).mem.read (pushCode c s).rd.toNat = some c := by
  have hcap := Params.cap_bounds hl
  have hfull : s.isFull = false := isFull_of_avail_lt hl (by omega)
  have hrd : s.rd = s.wr := by simpa [State.isEmpty] using (State.isEmpty_iff_avail hl).mpr he
  have hrd' : (pushCode c s).rd = s.wr := by
    rw [← hrd, pushCode_frame]
    rfl
  obtain ⟨-, -, -, hmem⟩ := pushCode_of_room ha hfull c
  exact ⟨by simp [avail_pushCode hl, ha, hfull, he], by rw [hmem, Memory.read_write, hrd', if_pos rfl]⟩

/-! ## A firing TICK and a PUSH on an empty ring -/

section EmptyRing

variable (hl : s.params.legal = true) (hf : (advanceTime s).firesNow = true) (hb : s.busy = false)
  (he : s.avail = 0) (ha : s.abort = false) (w : Word)

include hl hf hb he ha

/-- TICK first: the firing finds the ring empty, and the code stays unread (R189). -/
theorem tick_push_of_empty : ∃ t, execAll [.tick, .push w] s = .next t ∧
    t.underruns = s.underruns + 1#32 ∧ t.updates = s.updates ∧ t.avail = 1 := by
  have htick := exec_tick_of_empty hf hb ((State.isEmpty_iff_avail hl).mpr he)
  generalize hu : respond .noData _ = u at htick
  have heu : u.avail = 0 := by
    rw [← he]
    exact State.avail_congr (by simp [← hu]) (by simp [← hu]) (by simp [← hu])
  obtain ⟨hav, -⟩ := pushCode_of_empty (by simp [← hu, hl]) heu (by simp [← hu, ha]) (dataCode w)
  obtain ⟨-, -, -, -, -, hupd, hunder⟩ := pushCode_keeps (dataCode w) u
  exact ⟨_, execAll_pair htick (exec_push_eq rfl u), hunder.trans (by simp [← hu]),
    hupd.trans (by simp [← hu]), hav⟩

/-- PUSH first: the firing pops the code just stored (R188). -/
theorem push_tick_of_empty : ∃ t, execAll [.push w, .tick] s = .next t ∧
    t.underruns = s.underruns ∧ t.updates = s.updates + 1#32 ∧ t.avail = 0 ∧
    t.frame = frameOf s.params (dataCode w) := by
  obtain ⟨hav, hm⟩ := pushCode_of_empty hl he ha (dataCode w)
  obtain ⟨hparams, harmed, htime, halarm, hbusy, hupd, hunder⟩ := pushCode_keeps (dataCode w) s
  rw [firesNow_advanceTime_iff, ← harmed, ← htime, ← halarm, ← firesNow_advanceTime_iff] at hf
  have hpush : exec (.push w) s = .next (respond .noData (pushCode (dataCode w) s)) := exec_push_eq rfl s
  obtain ⟨t, htick, hunder', hupd', hav', -, -, hframe⟩ :=
    exec_tick_of_unread (s := respond .noData (pushCode (dataCode w) s)) (hparams ▸ hl) hf (hbusy.trans hb)
      (hav ▸ Nat.one_pos) hm
  exact ⟨t, execAll_pair hpush htick, hunder'.trans hunder, by simp [hupd', hupd],
    Nat.succ_injective (hav'.trans hav), by simp [hframe, hparams]⟩

end EmptyRing

/-! ## A firing TICK and the last TREQ of a frame -/

section LastByte

variable (hb : s.busy = true) (hp : s.fpos = 2#2)

include hb hp

/-- The TREQ for the last byte of the frame in transfer, `FRAME[2]` (R222). -/
theorem exec_treq_of_last_byte : exec .treq s = .next (respond .noData (endTransfer (emit s.frame.b2 s))) :=
  exec_treq_of_last hb (by simp [hp]) hp

/-- TICK first: the firing meets the frame still in transfer (R187). -/
theorem tick_treq_of_last (hf : (advanceTime s).firesNow = true) : ∃ t, execAll [.tick, .treq] s = .next t ∧
    t.underruns = s.underruns + 1#32 ∧ t.cause = .underrunBusy ∧ t.updates = s.updates ∧ t.busy = false := by
  have htick := exec_tick_of_busy hf hb
  generalize hu : respond .noData _ = u at htick
  have htreq := exec_treq_of_last_byte (s := u) (by simp [← hu, hb]) (by simp [← hu, hp])
  exact ⟨_, execAll_pair htick htreq, by simp [← hu], by simp [← hu], by simp [← hu], by simp⟩

/-- TREQ first: the frame is over, and the firing issues a new one (R188). -/
theorem treq_tick_of_last (h : s.Inv) (hf : (advanceTime s).firesNow = true) (hpos : 0 < s.avail) :
    ∃ t, execAll [.treq, .tick] s = .next t ∧ t.underruns = s.underruns ∧ t.updates = s.updates + 1#32 ∧
      t.busy = true ∧ t.fpos = 0#2 := by
  obtain ⟨c, hm⟩ := h.front_written hpos
  obtain ⟨t, htick, hunder, hupd, -, hbusy, hfpos, -⟩ :=
    exec_tick_of_unread (s := respond .noData (endTransfer (emit s.frame.b2 s))) h.legal hf rfl hpos hm
  exact ⟨t, execAll_pair (exec_treq_of_last_byte hb hp) htick, hunder, hupd, hbusy, hfpos⟩

end LastByte

/-! ## A NACK and the last TREQ of a frame -/

/-- NACK first: the frame is abandoned, and the TREQ has nothing to hand over (R223, R225). -/
theorem nack_treq_out (s : State) : ∃ t, execAll [.nack, .treq] s = .next t ∧ t.out = s.out := by
  have hidle : (respond .noData (failTransfer s)).busy = false := by simp [failTransfer_eq]
  exact ⟨_, execAll_pair rfl (exec_treq_of_idle hidle), by simp [failTransfer_eq]⟩

/-- TREQ first: the last byte has been handed over, and the NACK takes none back (R222, R225). -/
theorem treq_nack_of_last (hb : s.busy = true) (hp : s.fpos = 2#2) :
    ∃ t, execAll [.treq, .nack] s = .next t ∧ t.out = s.out ++ [s.frame.b2] :=
  ⟨_, execAll_pair (exec_treq_of_last_byte hb hp) rfl, by simp [failTransfer_eq]⟩

/-! ## The statement -/

/-- Settles O11: each pair of operations, in each of its orders. -/
theorem orderOfSimultaneousEventsMatters : Obligations.OrderOfSimultaneousEventsMatters := by
  have hfires {s : State} (harm : s.armed = true) (hal : s.alarm = s.time + 1#32) :
      (advanceTime s).firesNow = true := firesNow_advanceTime_iff.mpr ⟨harm, hal.symm⟩
  refine ⟨fun s w hl harm hal hb he ha => ?emptyRing, fun s h harm hal hb hp hpos => ?lastByte,
    fun s hb hp => ?failure⟩
  case emptyRing =>
    have hf := hfires harm hal
    exact ⟨tick_push_of_empty hl hf hb he ha w, push_tick_of_empty hl hf hb he ha w⟩
  case lastByte =>
    have hf := hfires harm hal
    exact ⟨tick_treq_of_last hb hp hf, treq_tick_of_last hb hp h hf hpos⟩
  case failure => exact ⟨nack_treq_out s, treq_nack_of_last hb hp⟩

end Sys2Proof.Machine
end

section
/-! SUPPORT. Proofs for 70_reset_and_hazards.md: what the host reads of an empty ring (R38, R250) and of the state RESET
gives (R360), that a power-on state is such a state (R361), and the statements of that file. -/

namespace Sys2Proof.Machine

variable {s : State}

/-! ## The levels of an empty ring -/

/-- An empty ring asks for a refill: the watermark is at least 1, and a block fits into `N - 1` slots (R6, R250). -/
theorem refillReq_of_empty (hl : s.params.legal = true) (ha : s.avail = 0) : s.refillReq = true := by
  obtain ⟨-, ⟨-, hblock⟩, ⟨hlwm, -⟩, -⟩ := s.params.legal_iff.mp hl
  rw [State.refillReq_iff, State.free, ha]
  omega

/-- An empty ring is not full: it has at least two slots (R6, R38). -/
theorem isFull_of_empty (hl : s.params.legal = true) (ha : s.avail = 0) : s.isFull = false := by
  have hcap := Params.cap_bounds hl
  exact isFull_of_avail_lt hl (by omega)

/-! ## The reset state -/

/-- After RESET of a legal instance `STATUS` shows the empty ring and its refill request, and nothing else (R282). -/
theorem statusWord_resetBlock (hl : s.params.legal = true) : (resetBlock s).statusWord = 0x00000005#32 := by
  have ha : (resetBlock s).avail = 0 := avail_resetBlock hl
  have hl' : (resetBlock s).params.legal = true := hl
  have hempty : (resetBlock s).isEmpty = true := (State.isEmpty_iff_avail hl').mpr ha
  have hfull : (resetBlock s).isFull = false := isFull_of_empty hl' ha
  have hrefill : (resetBlock s).refillReq = true := refillReq_of_empty hl' ha
  simp [State.statusWord, State.irq, hempty, hfull, hrefill, Cause.code]

/-- With `OUT` empty and no pending input, RESET gives the power-on state of the instance (R361). -/
theorem exec_reset_eq_powerOn (ho : s.out = []) (hi : s.input = []) :
    exec .reset s = .next (State.powerOn s.params) :=
  calc exec .reset s = .next { State.powerOn s.params with out := s.out, input := s.input } := rfl
    _ = .next (State.powerOn s.params) := by rw [ho, hi]; rfl

/-! ## The statements -/

/-- Settles O12, field by field; the answer does not enter `STATUS`. -/
theorem resetWritesEveryElement : Obligations.ResetWritesEveryElement := by
  intro s
  have hstatus : s.params.legal = true →
      (respond .noData (resetBlock s)).statusWord = 0x00000005#32 := statusWord_resetBlock
  exact ⟨respond .noData (resetBlock s), rfl, by simpa using hstatus⟩

/-- Settles O13: RESET gives the power-on state, and its empty ring asks for a refill. -/
theorem powerOnIsTheResetState : Obligations.PowerOnIsTheResetState := by
  intro p hl
  obtain ⟨-, hempty⟩ := powerOn_inv_avail hl
  refine ⟨?_, powerOn_out p, powerOn_armed p, by simp [State.irq], refillReq_of_empty hl hempty⟩
  rintro s rfl hi
  exact exec_reset_eq_powerOn rfl hi

/-- Settles O14: the power-on state is one RESET gives (`powerOn_inv_avail`). -/
theorem powerOnMeetsInvariant : Obligations.PowerOnMeetsInvariant :=
  fun _ hl => (powerOn_inv_avail hl).1

end Sys2Proof.Machine
end
